-- ==== Sys2Proof/Word.lean ====
section
/-! DEFINITION. The words of the block: fixed widths of spec/00_scope.md R6 and R7. -/

namespace Sys2Proof

/-- A received byte, a length byte, a checksum byte: 8 bits, unsigned (R6, R7). -/
abbrev Byte := BitVec 8

/-- The 16-bit word that carries one event into the block (R74). -/
abbrev EventWord := BitVec 16

end Sys2Proof
end

