-- ==== Sys2Proof/Syntax.lean ====
section
/-! DEFINITION. The inputs of the block as syntax: the six rows of spec/opcode_table.json, and the written notation of
spec/30_encoding.md R87 and R88. -/

namespace Sys2Proof

/-- A line-error flag set, an "independent, possibly-multi-member set" (R6, R76). -/
structure LineFlags where
  ovr : Bool  -- overrun
  brk : Bool  -- break
  par : Bool  -- parity
  frm : Bool  -- framing
  deriving DecidableEq, Repr

/-- One input of the block, one constructor per row of spec/opcode_table.json. -/
inductive Instr where
  | byte (b : Byte)                      -- BYTE, R100: `ByteReceived(b)`
  | lerr (flags : LineFlags) (d : Byte)  -- LERR, R130: `LineErrorFlags(flags)` with the byte it came with
  | tout                                 -- TOUT, R138: `TimedOut`
  | tick                                 -- TICK, R153: one pulse of the timebase port
  | reset                                -- RESET, R230: the reset port
  | reserved (w : EventWord)             -- RESERVED, R81: every other event word
  deriving DecidableEq, Repr

/-- One line of the spec's written notation: the operations of R87 (a LERR line may leave its byte out) and the
pseudo-instructions of R88. -/
inductive AsmLine where
  | byte (v : Byte)
  | lerr (flags : LineFlags) (v : Option Byte)
  | tout
  | tick
  | reset
  | bytes (vs : List Byte)
  | frame (p : List Byte)
  | frameCs (c : Byte) (p : List Byte)
  | handleByte (v : Byte) (flags : LineFlags)
  | handleTimeout
  | ticks (n : Nat)
  deriving DecidableEq, Repr

end Sys2Proof
end

