-- ==== Sys2Proof/WellFormed.lean ====
section
/-! DEFINITION. Which inputs the encoding of spec/30_encoding.md admits: a LERR has a flag (R79, R135); a reserved word
is one of the words R81 lists. -/

namespace Sys2Proof

/-- Some flag of the set is set. -/
def LineFlags.any (f : LineFlags) : Bool := f.ovr || f.brk || f.par || f.frm

/-- The reserved patterns of R81's table, row by row, as conditions on the word's value. Written from the table, not from
the decoder of R82; that the two agree is a law. -/
def reservedPattern (w : EventWord) : Bool :=
  (w &&& 0xC000#16 == 0xC000#16)
    || ((w &&& 0x3000#16) != 0#16 && (w &&& 0xC000#16) != 0xC000#16)
    || ((w &&& 0xC000#16) == 0x0000#16 && (w &&& 0x0F00#16) != 0#16)
    || ((w &&& 0xC000#16) == 0x4000#16 && (w &&& 0x0F00#16) == 0#16)
    || ((w &&& 0xC000#16) == 0x8000#16 && (w &&& 0x3FFF#16) != 0#16)

/-- The well-formed inputs: those some event word or some port stands for. -/
def Instr.wellFormed : Instr → Bool
  | .byte _ => true
  | .lerr flags _ => flags.any
  | .tout => true
  | .tick => true
  | .reset => true
  | .reserved w => reservedPattern w

end Sys2Proof
end

