-- ==== Sys2Proof/Decode.lean ====
section
/-! DEFINITION. Event words and inputs: the fields of spec/30_encoding.md R74, the decoder of R82 (total on all 65536
words), and after it an encoder written from the forms R78 to R81. -/

namespace Sys2Proof

/-- KIND, bits 15:14 (R74). -/
def wordKind (w : EventWord) : BitVec 2 := w.extractLsb' 14 2

/-- RSV, bits 13:12 (R74). -/
def wordRsv (w : EventWord) : BitVec 2 := w.extractLsb' 12 2

/-- FLAGS, bits 11:8 (R74). -/
def wordFlags (w : EventWord) : BitVec 4 := w.extractLsb' 8 4

/-- DATA, bits 7:0 (R74, R77). -/
def wordData (w : EventWord) : Byte := w.extractLsb' 0 8

/-- Bits 13:0, which TOUT has none of (R81, R82). -/
def wordOperands (w : EventWord) : BitVec 14 := w.extractLsb' 0 14

/-- `set(x)` of R82: OVR iff x[0], BRK iff x[1], PAR iff x[2], FRM iff x[3]. -/
def flagsOfBits (x : BitVec 4) : LineFlags where
  ovr := x.getLsbD 0
  brk := x.getLsbD 1
  par := x.getLsbD 2
  frm := x.getLsbD 3

/-- One bit per flag, in the order of R76 and R85: bit 0 overrun, bit 1 break, bit 2 parity, bit 3 framing. -/
def bitsOfFlags (f : LineFlags) : BitVec 4 :=
  BitVec.ofBool f.frm ++ BitVec.ofBool f.par ++ BitVec.ofBool f.brk ++ BitVec.ofBool f.ovr

/-- The decoder of R82. -/
def decode (w : EventWord) : Instr :=
  if wordRsv w ≠ 0b00#2 then .reserved w
  else if wordKind w = 0b00#2 then
    if wordFlags w = 0b0000#4 then .byte (wordData w) else .reserved w
  else if wordKind w = 0b01#2 then
    if wordFlags w ≠ 0b0000#4 then .lerr (flagsOfBits (wordFlags w)) (wordData w) else .reserved w
  else if wordKind w = 0b10#2 then
    if wordOperands w = 0#14 then .tout else .reserved w
  else .reserved w

/-- The word with the fields of R74. -/
def packWord (kind rsv : BitVec 2) (flags : BitVec 4) (data : Byte) : EventWord :=
  kind ++ rsv ++ flags ++ data

/-- The event word of an input, from the forms R78 to R80; a reserved word is its own. TICK and RESET are port inputs and
have no event word (R86). -/
def encode : Instr → Option EventWord
  | .byte b => some (packWord 0b00#2 0b00#2 0b0000#4 b)
  | .lerr flags d => some (packWord 0b01#2 0b00#2 (bitsOfFlags flags) d)
  | .tout => some (packWord 0b10#2 0b00#2 0b0000#4 0x00#8)
  | .tick => none
  | .reset => none
  | .reserved w => some w

/-- The input that a row of spec/opcode_table.json gives as a number of at most 16 bits. An event word is one 16-bit
port word: there is no byte order to lay it out in (R57, R74). -/
def decodeTableWord (nbits w : Nat) : Option Instr :=
  if nbits ≤ 16 ∧ w < 2 ^ nbits then some (decode (BitVec.ofNat 16 w)) else none

/-- The event word of one received byte and its flags, the public contract `handle_byte(value, error_flags)` of R174:
BYTE where the set is empty, LERR where it is not. -/
def handleByteWord (value : Byte) (flags : LineFlags) : EventWord :=
  if flags.any then packWord 0b01#2 0b00#2 (bitsOfFlags flags) value else packWord 0b00#2 0b00#2 0b0000#4 value

/-- The event word TOUT that the watchdog's expiry posts and `handle_timeout()` steps on (R155, R175). -/
def timeoutWord : EventWord := 0x8000#16

end Sys2Proof
end

