-- ==== Sys2Proof/Config.lean ====
section
/-! DEFINITION. What an implementation of the block fixes (spec/00_scope.md R1 to R4) and the free values. -/

namespace Sys2Proof

/-- Which of the two lines of R179 a reserved event word takes (R81). DESIGN CHOICE, log 3: the spec gives one line to a
model and one to an implementation; the model has both. -/
inductive ReservedRule where
  | ignored  -- "implementation: emit Continue, no state change"
  | refused  -- "model: refuse"
  deriving DecidableEq, Repr

/-- The parameters of one block, fixed for its life (R1). DESIGN CHOICE, log 1: they are plain data of State, so that a
statement over every state is one over every legal parameter. -/
structure Params where
  bufCap       : Nat           -- BUF_CAP, R1, R2
  timeoutTicks : Nat           -- TIMEOUT_TICKS, R1, R4
  reserved     : ReservedRule  -- the model's own, log 3
  deriving DecidableEq, Repr

/-- The legal parameters: `4 <= BUF_CAP <= 65539` (R2) and `TIMEOUT_TICKS >= 1` (R4). -/
abbrev Params.wf (p : Params) : Prop :=
  4 ≤ p.bufCap ∧ p.bufCap ≤ 65539 ∧ 1 ≤ p.timeoutTicks

/-- How far BUF_CAP lies above its least value 4: left open by R1, R2. Free value (log 1). -/
opaque Config.bufCapAboveLeast : Fin 65536

/-- How far TIMEOUT_TICKS lies above its least value 1: left open by R1, R4. Free value (log 1). -/
opaque Config.timeoutTicksAboveLeast : Nat

/-- What `pl_data` shows outside the payload window: "no value (any bits)" (R177, I7). Free value (log 9, log 10):
applied to the free counter of State and to `pl_addr`. -/
opaque Config.plDataFree : Nat → BitVec 16 → Byte

/-- The parameters of the block right after reset: any legal ones (R1, R2, R4; log 1, log 3). -/
def Config.params : Params where
  bufCap := Config.bufCapAboveLeast.val + 4
  timeoutTicks := Config.timeoutTicksAboveLeast + 1
  reserved := .ignored

end Sys2Proof
end

