-- ==== Sys2Proof/Machine/State.lean ====
section
/-! DEFINITION. The state of one block and its environment as plain data (spec/10_state.md R20 to R32, R41;
spec/43_interface_and_step.md R170, R177, R182), the reasons a step may stop, and the state after reset. -/

namespace Sys2Proof.Machine

/-- The four parse phases (R21). -/
inductive Phase where
  | idle   -- IDLE
  | lenHi  -- LEN_HI, AwaitingLengthHigh
  | lenLo  -- LEN_LO, AwaitingLengthLow
  | body   -- BODY, AwaitingPayloadOrChecksum
  deriving DecidableEq, Repr

/-- Why a frame is dropped (R84, R201). -/
inductive DiscardReason where
  | checksumMismatch
  | timeout
  | lineError
  | bufferOverflow
  deriving DecidableEq, Repr

/-- The outcome of a step (R83, R172); a FrameComplete carries its payload by value (R177). -/
inductive FrameOutcome where
  | continue_
  | frameComplete (payload : List Byte)
  | frameDiscarded (reason : DiscardReason)
  deriving DecidableEq, Repr

/-- The payload buffer (R50): the cells that hold a byte, by rising index. A cell not listed holds no value (R10, R23;
log 14). -/
abbrev Memory := List Host.Cell

/-- One move of the environment (R182). `post` is SourcePost of a received byte and its flags (R174; log 7). `clock` is
one clock of the block's inputs (R170): `rst`, `offer` (`evt_valid`, offering the head of the queue) and `tick`. -/
inductive Move where
  | post (value : Byte) (flags : LineFlags)
  | clock (rst offer tick : Bool)
  deriving DecidableEq, Repr

/-- What a rule may find to hold no value (R10). -/
inductive Field where
  | bufCell (index : Nat)
  | lenHi
  | declLen
  | remaining
  | csum
  | wdCount
  deriving DecidableEq, Repr

/-- The faults of the model; the block itself has none (R200). None is reachable from a state of R30. -/
inductive Fault where
  /-- Raised by BufAppend at or past BUF_CAP: "model fault append past capacity" (R52). Safe: the machine stops. -/
  | appendPastCapacity
  /-- Raised by a buffer read at or past BUF_CAP, where no cell exists (R8, R50). Safe: the machine stops (log 13). -/
  | readPastCapacity
  /-- Raised by a read of a field or cell that holds no value: "reading it is a fault of the model" (R10, D29).
  Safe: the machine stops (log 2, log 14). -/
  | noValue (field : Field)
  /-- Raised by a TICK of an armed watchdog whose count is 0, which R29 excludes and no rule covers. Safe: the machine
  stops (log 13). -/
  | armedCountZero
  deriving DecidableEq, Repr

/-- The refusals of the model. -/
inductive Refusal where
  /-- Raised by an arm of exec that has no meaning yet. Safe: the machine stops. -/
  | notModelled (mnemonic : String)
  /-- Raised by RESERVED where `cfg.reserved` selects the model's line of R179: "model: refuse" (R81; log 3).
  Safe: the machine stops. -/
  | reservedWord (w : EventWord)
  deriving DecidableEq, Repr

/-- One block (R20), its parameters (R1), its output ports as the last step drove them (R170; log 4), and its
environment (R182; log 5). -/
structure State where
  cfg       : Params               -- R1; kept by every step
  phase     : Phase                -- R21
  buf       : Memory               -- R23, R50
  cursor    : Nat                  -- R24
  lenHi     : Option Byte          -- R25
  declLen   : Option (BitVec 16)   -- R26
  remaining : Option (BitVec 16)   -- R27
  csum      : Option Byte          -- R28
  wdArmed   : Bool                 -- R29
  wdCount   : Option Nat           -- R29
  evtReady  : Bool                 -- evt_ready, R171
  outcome   : Option FrameOutcome  -- out_valid, out_kind, out_reason, out_len: none where out_valid is 0 (R170, R172)
  errRpt    : LineFlags            -- err_rpt, R85, R173
  wdExpire  : Bool                 -- wd_expire, R155
  arm       : Bool                 -- the internal Arm() signal of the step (R151, R214)
  payload   : Option (List Byte)   -- the payload window of pl_data: none where it is closed (R177)
  queue     : List EventWord       -- Q, oldest first (R182)
  schedule  : List Move            -- the environment's coming moves (R182; log 5)
  freeCount : Nat                  -- the model's counter for free values (log 10)
  deriving DecidableEq, Repr

/-- The empty flag set: no report (R173). -/
def noFlags : LineFlags := ⟨false, false, false, false⟩

/-- The block right after reset with the parameters `p` (R41, R230), in an environment that has queued nothing and makes
no move yet (log 5). The ports are those of the reset clock (R230; log 4). -/
def State.resetWith (p : Params) : State where
  cfg := p
  phase := .idle
  buf := []
  cursor := 0
  lenHi := none
  declLen := none
  remaining := none
  csum := none
  wdArmed := false
  wdCount := none
  evtReady := false
  outcome := none
  errRpt := noFlags
  wdExpire := false
  arm := false
  payload := none
  queue := []
  schedule := []
  freeCount := 0

/-- The machine right after reset (R41), with any legal parameters (log 1). -/
def State.reset : State := State.resetWith Config.params

end Sys2Proof.Machine
end

