-- ==== Sys2Proof/Machine/Flags.lean ====
section
/-! DEFINITION. The outputs that play the part of flags (spec/10_state.md R39): the report set and the port encodings of
spec/30_encoding.md R83 to R86. -/

namespace Sys2Proof.Machine

/-- `report f` for each flag of `f`: the flags join the step's report set, none masks another (R8, R132). -/
def joinFlags (a f : LineFlags) : LineFlags where
  ovr := a.ovr || f.ovr
  brk := a.brk || f.brk
  par := a.par || f.par
  frm := a.frm || f.frm

/-- `phase[1:0]` (R21, R86). -/
def phaseCode : Phase → BitVec 2
  | .idle => 0b00
  | .lenHi => 0b01
  | .lenLo => 0b10
  | .body => 0b11

/-- `out_kind[1:0]` (R83). -/
def outKind : FrameOutcome → BitVec 2
  | .continue_ => 0b00
  | .frameComplete _ => 0b01
  | .frameDiscarded _ => 0b10

/-- The number of a discard reason (R84). -/
def reasonCode : DiscardReason → BitVec 2
  | .checksumMismatch => 0
  | .timeout => 1
  | .lineError => 2
  | .bufferOverflow => 3

/-- `out_reason[1:0]`: the reason of a discard, 0b00 otherwise (R84). -/
def outReason : FrameOutcome → BitVec 2
  | .continue_ => 0b00
  | .frameComplete _ => 0b00
  | .frameDiscarded r => reasonCode r

/-- `out_len[15:0]`: the payload length of a FrameComplete, 0 otherwise (R83, R177). -/
def outLen : FrameOutcome → BitVec 16
  | .continue_ => 0
  | .frameComplete p => BitVec.ofNat 16 p.length
  | .frameDiscarded _ => 0

/-- `err_rpt[3:0]` (R85). -/
def errRptPort (s : State) : BitVec 4 := bitsOfFlags s.errRpt

/-- `out_valid`: the outputs belong to the event consumed in this clock (R170). -/
def outValid (s : State) : Bool := s.outcome.isSome

/-- `current_phase()`, a read with no effect (R176). -/
def currentPhase (s : State) : Phase := s.phase

/-- `pl_data` at `pl_addr` (R177): a byte of the payload inside the window, "no value (any bits)" elsewhere: the free
value of this step (I7; log 9). -/
def plData (s : State) (addr : BitVec 16) : Byte :=
  match s.payload with
  | some p =>
    match p[addr.toNat]? with
    | some b => b
    | none => Config.plDataFree s.freeCount addr
  | none => Config.plDataFree s.freeCount addr

end Sys2Proof.Machine
end

