-- ==== Sys2Proof/Machine/Operands.lean ====
section
/-! DEFINITION. The operands the block assembles and its arithmetic: spec/40_byte_received.md R105, R106, R108, R109,
R113. -/

namespace Sys2Proof.Machine

/-- DELIM, the start-delimiter value (R5). UNVERIFIED against the repository's code, as the spec itself says (G1;
log 12). -/
def delim : Byte := 0x7E

/-- OVERHEAD, the bytes of a frame other than its payload (R3). -/
def overhead : Nat := 4

/-- The declared length, high byte first (R56, R71, R105). -/
def declaredLength (hi lo : Byte) : BitVec 16 :=
  (hi.setWidth 16 <<< 8) ||| lo.setWidth 16

/-- The capacity test: a frame that declares `len` bytes does not fit, in exact arithmetic (R106, D16). -/
def overflows (bufCap : Nat) (len : BitVec 16) : Bool := decide (bufCap < len.toNat + overhead)

/-- The checksum add, 8 bits, wrapping (R108, R113). -/
def addToSum (csum b : Byte) : Byte := csum + b

/-- The expected checksum `0xFF - csum` (R109). -/
def expectedChecksum (csum : Byte) : Byte := 0xFF - csum

/-- The sum modulo 256 of a list of bytes (R28). -/
def byteSum (p : List Byte) : Byte := p.foldl addToSum 0

end Sys2Proof.Machine
end

