-- ==== Sys2Proof/Machine/Ops.lean ====
section
/-! DEFINITION. The named operations every meaning is made of: the payload buffer (spec/20_memory.md R50 to R53), the
watchdog (spec/42_watchdog.md R151 to R155), `emit` and `report` (spec/00_scope.md R8), and Resync
(spec/60_exceptions.md R207), the block's one way of taking an exceptional condition. Resync has no return (R208). -/

namespace Sys2Proof.Machine

/-- What a meaning answers. -/
abbrev Result := Host.Outcome State Fault Refusal

/-- One statement of the pseudocode after another (R8): the second sees what the first left. -/
def andThen {α β : Type} (o : Host.Outcome α Fault Refusal) (k : α → Host.Outcome β Fault Refusal) :
    Host.Outcome β Fault Refusal :=
  match o with
  | .next a => k a
  | .fault f => .fault f
  | .refused r => .refused r

/-- A read of a field that may hold no value (R10). -/
def readField {α : Type} (f : Field) (v : Option α) : Host.Outcome α Fault Refusal :=
  match v with
  | some a => .next a
  | none => .fault (.noValue f)

/-- The canonical form of the buffer: indices strictly rising. No listed cell reads as an unlisted one does, since an
unlisted cell holds no value. -/
abbrev Memory.wf (m : Memory) : Prop := (m.map Prod.fst).Pairwise (· < ·)

/-- The byte of a cell, or no value (R23). -/
def Memory.read : Memory → Nat → Option Byte
  | [], _ => none
  | (k, v) :: m, a => if a = k then some v else Memory.read m a

/-- A write of one cell; keeps the indices rising. -/
def Memory.write : Memory → Nat → Byte → Memory
  | [], a, b => [(a, b)]
  | (k, v) :: m, a, b =>
    if a < k then (a, b) :: (k, v) :: m
    else if a = k then (a, b) :: m
    else (k, v) :: Memory.write m a b

/-- `buf[i]`, for `i < BUF_CAP` (R8, R50). -/
def bufRead (s : State) (i : Nat) : Host.Outcome Byte Fault Refusal :=
  if i < s.cfg.bufCap then readField (.bufCell i) (s.buf.read i) else .fault .readPastCapacity

/-- `[buf[i], ..., buf[i + n - 1]]`, the payload read of R111. -/
def bufReadRange (s : State) : Nat → Nat → Host.Outcome (List Byte) Fault Refusal
  | _, 0 => .next []
  | i, n + 1 => andThen (bufRead s i) fun b => andThen (bufReadRange s (i + 1) n) fun bs => .next (b :: bs)

/-- `BufAppend(b)` (R52). -/
def bufAppend (b : Byte) (s : State) : Result :=
  if s.cfg.bufCap ≤ s.cursor then .fault .appendPastCapacity
  else .next { s with buf := s.buf.write s.cursor b, cursor := s.cursor + 1 }

/-- `BufReset()` (R53). -/
def bufReset (s : State) : State :=
  { s with cursor := 0, buf := [], lenHi := none, declLen := none, remaining := none, csum := none }

/-- `Arm()` (R151). The `arm` signal lets a TICK of the same instant see that the arm wins (R156). -/
def armWatchdog (s : State) : State :=
  { s with wdArmed := true, wdCount := some s.cfg.timeoutTicks, arm := true }

/-- The payload window after an outcome: a FrameComplete opens it (R177). -/
def windowAfter : FrameOutcome → Option (List Byte) → Option (List Byte)
  | .frameComplete p, _ => some p
  | .continue_, w => w
  | .frameDiscarded _, w => w

/-- `emit o` (R8, R172). -/
def emit (o : FrameOutcome) (s : State) : State :=
  { s with outcome := some o, payload := windowAfter o s.payload }

/-- `report f` for each flag of `f` (R8, R130, R132). -/
def report (f : LineFlags) (s : State) : State := { s with errRpt := joinFlags s.errRpt f }

/-- `phase <- p` (R22). -/
def setPhase (p : Phase) (s : State) : State := { s with phase := p }

/-- `Resync(outcome)` (R207): the buffer is reset, the phase is IDLE, the outcome is emitted; nothing is saved and the
watchdog is not touched. -/
def resync (o : FrameOutcome) (s : State) : State := emit o (setPhase .idle (bufReset s))

/-- The ports at the start of a clock: nothing of an earlier step is shown (R34, R170; log 4). -/
def openClock (s : State) : State :=
  { s with evtReady := true, outcome := none, errRpt := noFlags, wdExpire := false, arm := false }

/-- The start of the step of an event word: it closes the payload window of the step before (R177), and its report set
is empty (R179). -/
def openEvent (s : State) : State := { openClock s with payload := none }

/-- The expiry (R155): the watchdog disarms and posts one TOUT to the tail of the queue. -/
def expire (s : State) : State :=
  { s with wdArmed := false, wdCount := none, queue := s.queue ++ [timeoutWord], wdExpire := true }

/-- One timebase tick at the watchdog (R153 to R155). -/
def tickWatchdog (s : State) : Result :=
  if s.wdArmed then
    andThen (readField .wdCount s.wdCount) fun n =>
      if 1 < n then .next { s with wdCount := some (n - 1) }
      else if n = 1 then .next (expire s)
      else .fault .armedCountZero
  else .next s

end Sys2Proof.Machine
end

