-- ==== Sys2Proof/Machine/ByteReceived.lean ====
section
/-! DEFINITION. BYTE, `ByteReceived(value)`: spec/40_byte_received.md R100 to R112, one definition per arm. -/

namespace Sys2Proof.Machine

/-- R101: any other byte in IDLE is noise. -/
def byteNoise (s : State) : Result := .next (emit .continue_ s)

/-- R102: the delimiter in IDLE starts a frame. -/
def byteDelimiter (s : State) : Result :=
  andThen (bufAppend delim (bufReset s)) fun s =>
    .next (emit .continue_ (setPhase .lenHi (armWatchdog s)))

/-- R104: the length-high byte. -/
def byteLengthHigh (b : Byte) (s : State) : Result :=
  andThen (bufAppend b { s with lenHi := some b }) fun s =>
    .next (emit .continue_ (setPhase .lenLo (armWatchdog s)))

/-- R106: the declared frame does not fit. No Arm(). -/
def lengthOverflow (s : State) : Result := .next (resync (.frameDiscarded .bufferOverflow) s)

/-- R107: the declared frame fits; enter the payload phase. -/
def lengthAccepted (len : BitVec 16) (s : State) : Result :=
  .next (emit .continue_ (setPhase .body
    (armWatchdog { s with declLen := some len, remaining := some len, csum := some 0 })))

/-- R105, then R106 or R107: the length-low byte. -/
def byteLengthLow (b : Byte) (s : State) : Result :=
  andThen (bufAppend b s) fun s =>
    andThen (readField .lenHi s.lenHi) fun hi =>
      if overflows s.cfg.bufCap (declaredLength hi b) then lengthOverflow s
      else lengthAccepted (declaredLength hi b) s

/-- R108: one payload byte, `remaining` being `n > 0`. -/
def bytePayload (b : Byte) (n : BitVec 16) (s : State) : Result :=
  andThen (bufAppend b s) fun s =>
    andThen (readField .csum s.csum) fun c =>
      .next (emit .continue_ (armWatchdog { s with csum := some (addToSum c b), remaining := some (n - 1) }))

/-- R111: the frame is complete; its payload is handed over. -/
def frameComplete (s : State) : Result :=
  andThen (readField .declLen s.declLen) fun len =>
    andThen (bufReadRange s 3 len.toNat) fun p => .next (resync (.frameComplete p) s)

/-- R112: the frame is dropped. -/
def checksumMismatch (s : State) : Result := .next (resync (.frameDiscarded .checksumMismatch) s)

/-- R110, then R111 or R112: the checksum byte. The comparison is with the received byte (§9 of the source). No Arm(). -/
def byteChecksum (c : Byte) (s : State) : Result :=
  andThen (bufAppend c s) fun s =>
    andThen (readField .csum s.csum) fun sum =>
      if c = expectedChecksum sum then frameComplete s else checksumMismatch s

/-- `step_BYTE` of R100, from the state the step starts in. -/
def byteStep (b : Byte) (s : State) : Result :=
  match s.phase with
  | .idle => if b = delim then byteDelimiter s else byteNoise s
  | .lenHi => byteLengthHigh b s
  | .lenLo => byteLengthLow b s
  | .body =>
    andThen (readField .remaining s.remaining) fun n =>
      if n = 0 then byteChecksum b s else bytePayload b n s

/-- BYTE (R100). -/
def execByte (b : Byte) (s : State) : Result := byteStep b (openEvent s)

end Sys2Proof.Machine
end

