-- ==== Sys2Proof/Machine/LineErrorTimeout.lean ====
section
/-! DEFINITION. LERR, `LineErrorFlags(set)`, and TOUT, `TimedOut`: spec/41_line_error_and_timeout.md R130 to R142. -/

namespace Sys2Proof.Machine

/-- Outside IDLE the frame is abandoned with `reason` (R133, R140); in IDLE there is none, and the step only emits
Continue (R131, R139). -/
def abandonFrame (reason : DiscardReason) (s : State) : Result :=
  match s.phase with
  | .idle => .next (emit .continue_ s)
  | .lenHi => .next (resync (.frameDiscarded reason) s)
  | .lenLo => .next (resync (.frameDiscarded reason) s)
  | .body => .next (resync (.frameDiscarded reason) s)

/-- LERR (R130): every flag is reported in every phase (R132); the byte `_d` is discarded (R134). -/
def execLerr (flags : LineFlags) (_d : Byte) (s : State) : Result :=
  abandonFrame .lineError (report flags (openEvent s))

/-- TOUT (R138): acted on by phase alone; the watchdog is not consulted and not touched (R141). -/
def execTout (s : State) : Result := abandonFrame .timeout (openEvent s)

end Sys2Proof.Machine
end

