-- ==== Sys2Proof/Machine/Ports.lean ====
section
/-! DEFINITION. The port inputs TICK (spec/42_watchdog.md R153 to R155) and RESET (spec/70_reset_and_hazards.md R230,
R231), and the reserved event words (spec/30_encoding.md R81). -/

namespace Sys2Proof.Machine

/-- TICK alone in its clock (R153 to R155). It consumes no event, so the payload window stays as it is (R177). -/
def execTick (s : State) : Result := tickWatchdog (openClock s)

/-- RESET (R230): every field of the block takes its value of R41; `evt_ready` is 0 in this clock; no outcome, no
report, no TOUT. The parameters are fixed for the life of the block (R1); the queue is the environment's and is kept
(R234), and so is its schedule. The payload window closes (log 9). -/
def execReset (s : State) : Result :=
  .next { State.resetWith s.cfg with queue := s.queue, schedule := s.schedule, freeCount := s.freeCount }

/-- RESERVED (R81, R179). Where the implementation's line holds, the word is consumed with no state change, no Arm(),
outcome Continue and no report; where the model's line holds, it is refused (log 3). -/
def execReserved (w : EventWord) (s : State) : Result :=
  match s.cfg.reserved with
  | .ignored => .next (emit .continue_ (openEvent s))
  | .refused => .refused (.reservedWord w)

end Sys2Proof.Machine
end

