-- ==== Sys2Proof/Machine/Dispatch.lean ====
section
/-! DEFINITION. What each input of the block does, one arm per constructor of Instr (spec/43_interface_and_step.md R179;
TICK and RESET by R182). -/

namespace Sys2Proof.Machine

def exec (i : Instr) (s : State) : Host.Outcome State Fault Refusal :=
  match i with
  | .byte b => Sys2Proof.Machine.execByte b s
  | .lerr flags d => Sys2Proof.Machine.execLerr flags d s
  | .tout => Sys2Proof.Machine.execTout s
  | .tick => Sys2Proof.Machine.execTick s
  | .reset => Sys2Proof.Machine.execReset s
  | .reserved w => Sys2Proof.Machine.execReserved w s

end Sys2Proof.Machine
end

