-- ==== Sys2Proof/Machine/System.lean ====
section
/-! DEFINITION. The block in its environment (spec/43_interface_and_step.md R182): what one move of the environment
does. -/

namespace Sys2Proof.Machine

/-- A step begins: the environment's next move is taken off the schedule, and the free values of this step are new
(log 5, log 10). -/
def beginStep (rest : List Move) (s : State) : State :=
  { s with schedule := rest, freeCount := s.freeCount + 1 }

/-- SourcePost (R182): the event word of one received byte joins the tail of the queue. -/
def sourcePost (value : Byte) (flags : LineFlags) (s : State) : Result :=
  .next { openClock s with queue := s.queue ++ [handleByteWord value flags] }

/-- The tick of a clock that also consumed an event: an Arm() of the same instant wins and the tick is not counted
(R156); otherwise it counts (R153 to R155; log 8). -/
def tickAfterEvent (s : State) : Result := if s.arm then .next s else tickWatchdog s

/-- A clock that offers no event: a tick alone, or nothing at all. -/
def clockNoEvent (tick : Bool) (s : State) : Result :=
  if tick then exec .tick s else .next (openClock s)

/-- Consume (R182): the word `w`, taken from the queue already, is decoded and its step done, with the tick of the same
clock if there is one. -/
def consume (w : EventWord) (tick : Bool) (s : State) : Result :=
  andThen (exec (decode w) s) fun t => if tick then tickAfterEvent t else .next t

/-- One clock of the block's inputs (R170, R241). Reset takes precedence: an event offered is not consumed and stays in
the queue, a tick is not counted (R230, R231). An offer needs an event: with an empty queue there is none (R182;
log 8). -/
def clockStep (rst offer tick : Bool) (s : State) : Result :=
  if rst then exec .reset s
  else if offer then
    match s.queue with
    | w :: q => consume w tick { s with queue := q }
    | [] => clockNoEvent tick s
  else clockNoEvent tick s

/-- One move of the environment. -/
def takeMove (m : Move) (s : State) : Result :=
  match m with
  | .post value flags => sourcePost value flags s
  | .clock rst offer tick => clockStep rst offer tick s

/-- One step of the system. With no move on the schedule nothing arrives, and the block holds its state (R217). -/
def systemStep (s : State) : Result :=
  match s.schedule with
  | [] => .next (openClock (beginStep [] s))
  | m :: rest => takeMove m (beginStep rest s)

/-- The state whose very next step consumes `w`: `w` at the head of the queue, and a clock that offers it and does
nothing else as the next move. -/
def loadEvent (w : EventWord) (s : State) : State :=
  { s with queue := w :: s.queue, schedule := .clock false true false :: s.schedule }

/-- Inputs one after another, each done before the next (R9, R60). -/
def runInputs : List Instr → State → Result
  | [], s => .next s
  | i :: is, s => andThen (exec i s) (runInputs is)

/-- The outcome and the report set a step has just emitted, if it consumed an event (R172, R173). -/
def observation (s : State) : List (FrameOutcome × LineFlags) :=
  match s.outcome with
  | some o => [(o, s.errRpt)]
  | none => []

/-- The observation of a run of inputs: the sequence of (outcome, report set) pairs of its Consume steps, in order
(R182), with the state it ends in. -/
def observeInputs : List Instr → State → Host.Outcome (List (FrameOutcome × LineFlags) × State) Fault Refusal
  | [], s => .next ([], s)
  | i :: is, s =>
    andThen (exec i s) fun t =>
      andThen (observeInputs is t) fun r => .next (observation t ++ r.1, r.2)

end Sys2Proof.Machine
end

