-- ==== Sys2Proof/Machine/Step.lean ====
section
/-! DEFINITION. One step of the machine, and how an event word is placed where the next step takes it. -/

namespace Sys2Proof.Machine

/-- One step: the environment's next move (spec/43_interface_and_step.md R182). -/
def step (s : State) : Host.Outcome State Fault Refusal := systemStep s

/-- `s` with the event word `w` offered to its very next step. An event word is one 16-bit word (R74). -/
def State.withFetchWord (s : State) (_nbits w : Nat) : State := loadEvent (BitVec.ofNat 16 w) s

end Sys2Proof.Machine
end

