-- ==== Sys2Proof/Machine/Assembly.lean ====
section
/-! DEFINITION. Frames on the wire (spec/30_encoding.md R70, R72) and the written notation's expansion into inputs (R87,
R88). -/

namespace Sys2Proof.Machine

/-- The checksum byte of a payload: `0xFF - (sum of payload bytes mod 256)` (R70). -/
def frameChecksum (p : List Byte) : Byte := expectedChecksum (byteSum p)

/-- `L[15:8]` of a payload's length (R72). -/
def lengthHigh (p : List Byte) : Byte := (BitVec.ofNat 16 p.length).extractLsb' 8 8

/-- `L[7:0]` of a payload's length (R72). -/
def lengthLow (p : List Byte) : Byte := (BitVec.ofNat 16 p.length).extractLsb' 0 8

/-- The frame of a payload with a given last byte (R88, `FRAME_CS`). -/
def frameWithChecksum (c : Byte) (p : List Byte) : List Byte :=
  [delim, lengthHigh p, lengthLow p] ++ p ++ [c]

/-- `Frame(p)`, the well-formed frame of a payload (R72). -/
def frameBytes (p : List Byte) : List Byte := frameWithChecksum (frameChecksum p) p

/-- One BYTE input for each byte. -/
def byteInputs (bs : List Byte) : List Instr := bs.map Instr.byte

/-- The inputs a written line stands for: R87 (a LERR line's byte defaults to 0x00) and R88. -/
def expandLine : AsmLine → List Instr
  | .byte v => [.byte v]
  | .lerr flags v => [.lerr flags (v.getD 0x00)]
  | .tout => [.tout]
  | .tick => [.tick]
  | .reset => [.reset]
  | .bytes vs => byteInputs vs
  | .frame p => byteInputs (frameBytes p)
  | .frameCs c p => byteInputs (frameWithChecksum c p)
  | .handleByte v flags => if flags.any then [.lerr flags v] else [.byte v]
  | .handleTimeout => [.tout]
  | .ticks n => List.replicate n .tick

end Sys2Proof.Machine
end

