-- ==== Sys2Proof/Safety.lean ====
section
/-! DEFINITION. What counts as a good state and a safe run of the block, in the terms the statements use: the table of
spec/10_state.md R30 with R24, R29, R2 and R4, the environment's duty of R184, and short names for the states that
results are written in. None of these is built from the meanings. -/

namespace Sys2Proof.Machine

/-- Consecutive cells from index `i` on. -/
def cellsFrom : Nat → List Byte → Memory
  | _, [] => []
  | i, b :: bs => (i, b) :: cellsFrom (i + 1) bs

/-- `buf[3 .. cursor-1]`, the payload bytes so far (R30, R54). -/
def payloadSoFar (s : State) : List Byte := (s.buf.map Prod.snd).drop 3

/-- The BODY row of R30, for the values the four fields hold: the buffer holds the delimiter, the two length bytes and
the payload bytes so far, and nothing else; `remaining` counts the rest; `csum` is their sum; the frame fits. -/
abbrev bodyRow (s : State) (hi : Byte) (len rem : BitVec 16) (c : Byte) : Prop :=
  s.buf = cellsFrom 0 ([delim, hi, len.extractLsb' 0 8] ++ payloadSoFar s)
    ∧ len.extractLsb' 8 8 = hi
    ∧ s.cursor = 3 + (payloadSoFar s).length
    ∧ (payloadSoFar s).length + rem.toNat = len.toNat
    ∧ c = byteSum (payloadSoFar s)
    ∧ len.toNat + overhead ≤ s.cfg.bufCap

/-- The table of R30, row by row. -/
def FrameInv (s : State) : Prop :=
  match s.phase with
  | .idle => s.buf = [] ∧ s.cursor = 0 ∧ s.lenHi = none ∧ s.declLen = none ∧ s.remaining = none ∧ s.csum = none
  | .lenHi =>
    s.buf = [(0, delim)] ∧ s.cursor = 1 ∧ s.lenHi = none ∧ s.declLen = none ∧ s.remaining = none ∧ s.csum = none
  | .lenLo =>
    match s.lenHi with
    | some hi => s.buf = [(0, delim), (1, hi)] ∧ s.cursor = 2 ∧ s.declLen = none ∧ s.remaining = none ∧ s.csum = none
    | none => False
  | .body =>
    match s.lenHi, s.declLen, s.remaining, s.csum with
    | some hi, some len, some rem, some c => bodyRow s hi len rem c
    | _, _, _, _ => False

/-- R29: an armed watchdog has a count in `1 .. TIMEOUT_TICKS`, a disarmed one has none. Independent of the phase
(R32). -/
def WatchdogInv (s : State) : Prop :=
  match s.wdArmed, s.wdCount with
  | true, some n => 1 ≤ n ∧ n ≤ s.cfg.timeoutTicks
  | false, none => True
  | _, _ => False

/-- The payload window holds a frame's payload (R177), the one of a FrameComplete just emitted. -/
def WindowInv (s : State) : Prop :=
  (∀ p, s.payload = some p → p.length + overhead ≤ s.cfg.bufCap)
    ∧ ∀ p, s.outcome = some (.frameComplete p) → s.payload = some p

/-- A good state: legal parameters, and every field as R29 and R30 say. -/
structure State.Inv (s : State) : Prop where
  params   : s.cfg.wf
  frame    : FrameInv s
  watchdog : WatchdogInv s
  window   : WindowInv s

/-- No reserved word waits in the queue: the Event Dispatcher's duty (R184). -/
def CleanQueue (s : State) : Prop := ∀ w ∈ s.queue, reservedPattern w = false

/-- `s` with the frame fields of the IDLE row of R30. -/
def withEmptyFrame (s : State) : State :=
  { s with phase := .idle, buf := [], cursor := 0, lenHi := none, declLen := none, remaining := none, csum := none }

/-- `s` with the watchdog just armed (R151). -/
def withArmedWatchdog (s : State) : State := { s with wdArmed := true, wdCount := some s.cfg.timeoutTicks }

/-- `s` with the ports of a step that consumed an event: the outcome, the reports, whether Arm() was called, and the
payload window (R170 to R173, R177, R214). -/
def withEventPorts (o : FrameOutcome) (reports : LineFlags) (armed : Bool) (window : Option (List Byte)) (s : State) :
    State :=
  { s with evtReady := true, outcome := some o, errRpt := reports, wdExpire := false, arm := armed, payload := window }

/-- `s` with the ports of a clock that consumed no event: nothing but, at an expiry, the `wd_expire` pulse (R170). -/
def withQuietPorts (expired : Bool) (s : State) : State :=
  { s with evtReady := true, outcome := none, errRpt := noFlags, wdExpire := expired, arm := false }

/-- Two states with the same frame fields and parameters; the watchdog, the ports, the queue and the rest may differ. -/
structure SameFrame (s t : State) : Prop where
  cfg       : s.cfg = t.cfg
  phase     : s.phase = t.phase
  buf       : s.buf = t.buf
  cursor    : s.cursor = t.cursor
  lenHi     : s.lenHi = t.lenHi
  declLen   : s.declLen = t.declLen
  remaining : s.remaining = t.remaining
  csum      : s.csum = t.csum

/-- Two states with the same environment: queue, schedule and free counter. -/
structure SameEnv (s t : State) : Prop where
  queue     : s.queue = t.queue
  schedule  : s.schedule = t.schedule
  freeCount : s.freeCount = t.freeCount

/-- The inputs that come as event words (R74). -/
def isEvent : Instr → Bool
  | .byte _ => true
  | .lerr _ _ => true
  | .tout => true
  | .tick => false
  | .reset => false
  | .reserved _ => true

/-- The inputs that can change a frame: a TICK changes the watchdog alone (R153 to R155), and a reserved word nothing
(R81). -/
def touchesFrame : Instr → Bool
  | .byte _ => true
  | .lerr _ _ => true
  | .tout => true
  | .tick => false
  | .reset => true
  | .reserved _ => false

/-- The steps of R152's table that call Arm(): a delimiter in IDLE, a length-high byte, an accepted length-low byte, a
payload byte. -/
def armsTable (s : State) : Instr → Bool
  | .byte b =>
    match s.phase with
    | .idle => b == delim
    | .lenHi => true
    | .lenLo =>
      match s.lenHi with
      | some hi => decide (hi.toNat * 256 + b.toNat + 4 ≤ s.cfg.bufCap)
      | none => false
    | .body => s.remaining != some 0
  | .lerr _ _ => false
  | .tout => false
  | .tick => false
  | .reset => false
  | .reserved _ => false

/-- In the run of these inputs from `s` no step calls Arm(), by R152's table, and none is a reset: "if no further `Arm()`
comes first" (R159). -/
def NoFurtherArm : List Instr → State → Prop
  | [], _ => True
  | i :: is, s => armsTable s i = false ∧ i ≠ .reset ∧ ∀ t, exec i s = .next t → NoFurtherArm is t

end Sys2Proof.Machine
end

