-- ==== Sys2Proof/Certificates/Slice0/Obligations.lean ====
section
/-! DEFINITION. The statements about the block, from the numbered rules of spec/. Each is about every state that meets its
hypotheses, so about every legal BUF_CAP and TIMEOUT_TICKS and every schedule of the environment. -/

open Sys2Proof Sys2Proof.Machine

/-! ### Encoding (30_encoding.md) -/

/-- Words written out from R78 to R81 decode to the inputs they stand for (vectors V-E1 to V-E14 of 95). -/
def Obligations.WrittenWordsDecode : Prop :=
  decode 0b0000000001111110#16 = .byte 0x7E
    ∧ decode 0b0100100100110011#16 = .lerr ⟨true, false, false, true⟩ 0x33
    ∧ decode 0b0100001000000000#16 = .lerr ⟨false, true, false, false⟩ 0x00
    ∧ decode 0b1000000000000000#16 = .tout
    ∧ decode 0b0000000101010101#16 = .reserved 0x0155
    ∧ decode 0b0100000001010101#16 = .reserved 0x4055
    ∧ decode 0b1000000000000001#16 = .reserved 0x8001
    ∧ decode 0b0001000000000000#16 = .reserved 0x1000
    ∧ decode 0b1100000000000000#16 = .reserved 0xC000

/-- R78 to R80 as match, mask and condition, and R81: every word that matches none of the three forms is reserved. -/
def Obligations.DecoderFollowsMatchAndMask : Prop :=
  ∀ w : EventWord,
    (w &&& 0xFF00#16 = 0x0000#16 → decode w = .byte (w.setWidth 8))
      ∧ (w &&& 0xF000#16 = 0x4000#16 → w &&& 0x0F00#16 ≠ 0#16 →
          decode w = .lerr ⟨w.getLsbD 8, w.getLsbD 9, w.getLsbD 10, w.getLsbD 11⟩ (w.setWidth 8))
      ∧ (w = 0x8000#16 → decode w = .tout)
      ∧ (w &&& 0xFF00#16 ≠ 0x0000#16 → ¬(w &&& 0xF000#16 = 0x4000#16 ∧ w &&& 0x0F00#16 ≠ 0#16) → w ≠ 0x8000#16 →
          decode w = .reserved w)

/-- The decoder calls a word reserved exactly where R81's table lists it. -/
def Obligations.ReservedWordsAreTheListedPatterns : Prop :=
  ∀ w : EventWord, decode w = .reserved w ↔ reservedPattern w = true

/-- Decoding the event word of a well-formed input gives the input back, every operand at every value. -/
def Obligations.DecodeAfterEncode : Prop :=
  ∀ (i : Instr) (w : EventWord), i.wellFormed = true → encode i = some w → decode w = i

/-- Every one of the 65536 words decodes to a well-formed input whose event word it is. -/
def Obligations.EncodeAfterDecode : Prop :=
  ∀ w : EventWord, (decode w).wellFormed = true ∧ encode (decode w) = some w

/-- R174: `handle_byte(value, error_flags)` is a BYTE word where the flag set is empty and a LERR word where it is not. -/
def Obligations.HandleByteSplitsOnFlags : Prop :=
  ∀ (v : Byte) (f : LineFlags),
    (f = noFlags → handleByteWord v f = v.setWidth 16 ∧ decode (handleByteWord v f) = .byte v)
      ∧ (f ≠ noFlags → decode (handleByteWord v f) = .lerr f v
          ∧ handleByteWord v f = 0x4000#16 ||| ((bitsOfFlags f).setWidth 16 <<< 8) ||| v.setWidth 16)

/-- R83, R84, R21: the numbers on the output ports. -/
def Obligations.OutputPortCodes : Prop :=
  outKind .continue_ = 0b00 ∧ outReason .continue_ = 0b00 ∧ outLen .continue_ = 0
    ∧ (∀ p : List Byte, outKind (.frameComplete p) = 0b01 ∧ outReason (.frameComplete p) = 0b00)
    ∧ (∀ p : List Byte, p.length < 65536 → (outLen (.frameComplete p)).toNat = p.length)
    ∧ (∀ r, outKind (.frameDiscarded r) = 0b10 ∧ outLen (.frameDiscarded r) = 0)
    ∧ outReason (.frameDiscarded .checksumMismatch) = 0 ∧ outReason (.frameDiscarded .timeout) = 1
    ∧ outReason (.frameDiscarded .lineError) = 2 ∧ outReason (.frameDiscarded .bufferOverflow) = 3
    ∧ phaseCode .idle = 0b00 ∧ phaseCode .lenHi = 0b01 ∧ phaseCode .lenLo = 0b10 ∧ phaseCode .body = 0b11

/-- R85: `err_rpt` has one bit per flag, is `word[11:8]` for a LERR step and 0 for every other step. -/
def Obligations.ErrorReportPort : Prop :=
  (∀ s : State, (errRptPort s).getLsbD 0 = s.errRpt.ovr ∧ (errRptPort s).getLsbD 1 = s.errRpt.brk
      ∧ (errRptPort s).getLsbD 2 = s.errRpt.par ∧ (errRptPort s).getLsbD 3 = s.errRpt.frm)
    ∧ (∀ (w : EventWord) (s t : State), exec (decode w) s = .next t →
        errRptPort t = match decode w with
          | .lerr _ _ => w.extractLsb' 8 4
          | _ => 0)
    ∧ ∀ s t : State, exec .tick s = .next t ∨ exec .reset s = .next t → errRptPort t = 0

/-! ### BYTE (40_byte_received.md) -/

/-- R101: in IDLE a byte other than 0x7E is ignored; nothing but the ports changes. -/
def Obligations.IdleByteIsNoise : Prop :=
  ∀ (b : Byte) (s : State), s.phase = .idle → b ≠ 0x7E →
    exec (.byte b) s = .next (withEventPorts .continue_ noFlags false none s)

/-- R102: in IDLE a 0x7E resets the buffer, is recorded at index 0, arms the watchdog and leads to LEN_HI. -/
def Obligations.DelimiterStartsFrame : Prop :=
  ∀ s : State, s.phase = .idle → 0 < s.cfg.bufCap →
    exec (.byte 0x7E) s = .next (withEventPorts .continue_ noFlags true none (withArmedWatchdog
      { withEmptyFrame s with phase := .lenHi, buf := [(0, 0x7E)], cursor := 1 }))

/-- R104: in LEN_HI every byte is the length-high byte, 0x7E too. -/
def Obligations.LengthHighIsStored : Prop :=
  ∀ (b : Byte) (s : State), s.Inv → s.phase = .lenHi →
    exec (.byte b) s = .next (withEventPorts .continue_ noFlags true none (withArmedWatchdog
      { s with phase := .lenLo, lenHi := some b, buf := [(0, 0x7E), (1, b)], cursor := 2 }))

/-- R105, R106: in LEN_LO, where the declared frame does not fit in exact arithmetic, the frame is discarded with
BufferOverflow, the buffer is empty, and the watchdog is left alone. -/
def Obligations.LengthLowOverflowDiscards : Prop :=
  ∀ (b hi : Byte) (s : State), s.Inv → s.phase = .lenLo → s.lenHi = some hi →
    s.cfg.bufCap < hi.toNat * 256 + b.toNat + 4 →
    exec (.byte b) s = .next (withEventPorts (.frameDiscarded .bufferOverflow) noFlags false none (withEmptyFrame s))

/-- R105, R107: in LEN_LO, where the declared frame fits, the length-low byte is appended and the payload phase entered
with `remaining` the declared length and the checksum 0. -/
def Obligations.LengthLowAcceptedEntersBody : Prop :=
  ∀ (b hi : Byte) (s : State), s.Inv → s.phase = .lenLo → s.lenHi = some hi →
    hi.toNat * 256 + b.toNat + 4 ≤ s.cfg.bufCap →
    exec (.byte b) s = .next (withEventPorts .continue_ noFlags true none (withArmedWatchdog
      { s with
        phase := .body, buf := [(0, 0x7E), (1, hi), (2, b)], cursor := 3
        declLen := some (BitVec.ofNat 16 (hi.toNat * 256 + b.toNat))
        remaining := some (BitVec.ofNat 16 (hi.toNat * 256 + b.toNat)), csum := some 0 }))

/-- R108: in BODY with `remaining > 0` a byte, 0x7E too, is payload: appended at the cursor, added to the checksum,
counted, and the watchdog is armed. -/
def Obligations.PayloadByteIsAppended : Prop :=
  ∀ (b c : Byte) (rem : BitVec 16) (s : State), s.Inv → s.phase = .body → s.remaining = some rem → s.csum = some c →
    0 < rem.toNat →
    exec (.byte b) s = .next (withEventPorts .continue_ noFlags true none (withArmedWatchdog
      { s with
        buf := s.buf ++ [(s.cursor, b)], cursor := s.cursor + 1
        csum := some (BitVec.ofNat 8 ((c.toNat + b.toNat) % 256)), remaining := some (BitVec.ofNat 16 (rem.toNat - 1)) }))

/-- R110, R111: at the checksum position the byte `0xFF - csum` completes the frame: the outcome carries exactly the
`decl_len` bytes at indices 3 on, the window opens on them, the buffer is empty, and the watchdog is left alone. -/
def Obligations.MatchingChecksumCompletesFrame : Prop :=
  ∀ (c sum : Byte) (len : BitVec 16) (s : State), s.Inv → s.phase = .body → s.remaining = some 0 →
    s.csum = some sum → s.declLen = some len → c.toNat = 255 - sum.toNat →
    ∃ p : List Byte, p.length = len.toNat ∧ (∀ i, i < len.toNat → p[i]? = Memory.read s.buf (3 + i))
      ∧ exec (.byte c) s = .next (withEventPorts (.frameComplete p) noFlags false (some p) (withEmptyFrame s))

/-- R112: at the checksum position any byte but `0xFF - csum`, 0x7E too, discards the frame with ChecksumMismatch. So does
a frame with one bit of one payload byte or of the checksum byte flipped, the length unchanged: fed from IDLE it gives
`L + 3` Continue outcomes, then that discard (`j` is the byte's place in the frame, `k` the bit). -/
def Obligations.WrongChecksumDiscardsFrame : Prop :=
  (∀ (c sum : Byte) (s : State), s.Inv → s.phase = .body → s.remaining = some 0 → s.csum = some sum →
      c.toNat ≠ 255 - sum.toNat →
      exec (.byte c) s =
        .next (withEventPorts (.frameDiscarded .checksumMismatch) noFlags false none (withEmptyFrame s)))
    ∧ ∀ (p : List Byte) (j k : Nat) (s : State), s.Inv → s.phase = .idle → p.length + 4 ≤ s.cfg.bufCap →
        3 ≤ j → j < p.length + 4 → k < 8 →
        ∃ t, observeInputs (byteInputs ((frameBytes p).modify j (fun b => b ^^^ (1#8 <<< k)))) s =
            .next (List.replicate (p.length + 3) (.continue_, noFlags)
              ++ [(.frameDiscarded .checksumMismatch, noFlags)], t)
          ∧ t.phase = .idle

/-- R109: the expected checksum is `0xFF - csum`, in `0 .. 255`, and equals the bitwise complement of `csum`. -/
def Obligations.ExpectedChecksumIsComplement : Prop :=
  ∀ c : Byte, (expectedChecksum c).toNat = 255 - c.toNat ∧ expectedChecksum c = ~~~c

/-- R56, R71: the length field is big-endian: `first_length_byte * 256 + second_length_byte`, `0 .. 65535`. -/
def Obligations.LengthIsBigEndian : Prop :=
  ∀ first second : Byte, (declaredLength first second).toNat = first.toNat * 256 + second.toNat

/-- R103: outside IDLE the value 0x7E is never a delimiter: no byte leads from another phase to LEN_HI, and a 0x7E is a
length byte in LEN_HI and LEN_LO, a payload byte or the checksum byte in BODY. -/
def Obligations.NoDelimiterInsideFrame : Prop :=
  (∀ (b : Byte) (s t : State), s.phase ≠ .idle → exec (.byte b) s = .next t → t.phase ≠ .lenHi)
    ∧ (∀ s : State, s.Inv → s.phase = .lenHi → ∃ t, exec (.byte 0x7E) s = .next t ∧ t.phase = .lenLo
        ∧ t.lenHi = some 0x7E ∧ t.outcome = some .continue_)
    ∧ (∀ (hi : Byte) (s : State), s.Inv → s.phase = .lenLo → s.lenHi = some hi → ∃ t, exec (.byte 0x7E) s = .next t
        ∧ (hi.toNat * 256 + 0x7E + 4 ≤ s.cfg.bufCap → t.phase = .body ∧ t.outcome = some .continue_
            ∧ t.declLen = some (BitVec.ofNat 16 (hi.toNat * 256 + 0x7E)))
        ∧ (s.cfg.bufCap < hi.toNat * 256 + 0x7E + 4 → t.phase = .idle
            ∧ t.outcome = some (.frameDiscarded .bufferOverflow)))
    ∧ (∀ (rem : BitVec 16) (s : State), s.Inv → s.phase = .body → s.remaining = some rem → rem ≠ 0 →
        ∃ t, exec (.byte 0x7E) s = .next t ∧ t.phase = .body ∧ t.outcome = some .continue_
          ∧ Memory.read t.buf s.cursor = some 0x7E ∧ t.remaining = some (rem - 1))
    ∧ ∀ (sum : Byte) (s : State), s.Inv → s.phase = .body → s.remaining = some 0 → s.csum = some sum →
        ∃ t, exec (.byte 0x7E) s = .next t ∧ t.phase = .idle
          ∧ (sum = 0x81 → t.outcome = some (.frameComplete (payloadSoFar s)))
          ∧ (sum ≠ 0x81 → t.outcome = some (.frameDiscarded .checksumMismatch))

/-- The complete transition table of R180, which the spec derives from the rules of its rows: next phase, buffer, whether
Arm() is called, outcome and reports, one line per row. -/
def Obligations.TransitionTable : Prop :=
  ∀ (s : State), s.Inv →
    (∀ b : Byte, ∃ t, exec (.byte b) s = .next t ∧ t.errRpt = noFlags ∧
      match s.phase, s.lenHi, s.remaining, s.csum with
      | .idle, _, _, _ =>
        if b = 0x7E then t.phase = .lenHi ∧ t.buf = [(0, 0x7E)] ∧ t.arm = true ∧ t.outcome = some .continue_
        else t.phase = .idle ∧ t.buf = [] ∧ t.arm = false ∧ t.outcome = some .continue_
      | .lenHi, _, _, _ =>
        t.phase = .lenLo ∧ t.buf = s.buf ++ [(s.cursor, b)] ∧ t.arm = true ∧ t.outcome = some .continue_
          ∧ t.lenHi = some b
      | .lenLo, some hi, _, _ =>
        if hi.toNat * 256 + b.toNat + 4 ≤ s.cfg.bufCap then
          t.phase = .body ∧ t.buf = s.buf ++ [(s.cursor, b)] ∧ t.arm = true ∧ t.outcome = some .continue_
            ∧ t.csum = some 0 ∧ t.declLen = some (BitVec.ofNat 16 (hi.toNat * 256 + b.toNat)) ∧ t.remaining = t.declLen
        else t.phase = .idle ∧ t.buf = [] ∧ t.arm = false ∧ t.outcome = some (.frameDiscarded .bufferOverflow)
      | .body, _, some rem, some c =>
        if rem = 0 then
          t.phase = .idle ∧ t.buf = [] ∧ t.arm = false ∧
            if b = 0xFF - c then t.outcome = some (.frameComplete (payloadSoFar s))
            else t.outcome = some (.frameDiscarded .checksumMismatch)
        else t.phase = .body ∧ t.buf = s.buf ++ [(s.cursor, b)] ∧ t.arm = true ∧ t.outcome = some .continue_
          ∧ t.csum = some (c + b) ∧ t.remaining = some (rem - 1)
      | _, _, _, _ => False)
    ∧ (∀ (f : LineFlags) (d : Byte), ∃ t, exec (.lerr f d) s = .next t ∧ t.errRpt = f ∧ t.phase = .idle ∧ t.buf = []
        ∧ t.arm = false ∧ t.outcome = some (if s.phase = .idle then .continue_ else .frameDiscarded .lineError))
    ∧ ∃ t, exec .tout s = .next t ∧ t.errRpt = noFlags ∧ t.phase = .idle ∧ t.buf = [] ∧ t.arm = false
        ∧ t.outcome = some (if s.phase = .idle then .continue_ else .frameDiscarded .timeout)

/-! ### LERR and TOUT (41_line_error_and_timeout.md) -/

/-- R131: in IDLE a LERR reports its flags and changes nothing else; its byte, 0x7E too, starts no frame. -/
def Obligations.LineErrorInIdleOnlyReports : Prop :=
  ∀ (f : LineFlags) (d : Byte) (s : State), s.phase = .idle →
    exec (.lerr f d) s = .next (withEventPorts .continue_ f false none s)

/-- R133: outside IDLE a LERR abandons the frame with LineError; the watchdog keeps counting. -/
def Obligations.LineErrorAbandonsFrame : Prop :=
  ∀ (f : LineFlags) (d : Byte) (s : State), s.phase ≠ .idle →
    exec (.lerr f d) s = .next (withEventPorts (.frameDiscarded .lineError) f false none (withEmptyFrame s))

/-- R132: a LERR step reports every flag of its set, in every phase, and no other; the report set of a BYTE or TOUT step
is empty. -/
def Obligations.ReportsAreExactlyTheFlags : Prop :=
  (∀ (f : LineFlags) (d : Byte) (s : State), ∃ t, exec (.lerr f d) s = .next t ∧ t.errRpt = f)
    ∧ (∀ (b : Byte) (s t : State), exec (.byte b) s = .next t → t.errRpt = noFlags)
    ∧ ∀ s : State, ∃ t, exec .tout s = .next t ∧ t.errRpt = noFlags

/-- R134: the byte of a LERR event is discarded: any other byte gives the same step, and nothing is appended. -/
def Obligations.LineErrorByteIsDiscarded : Prop :=
  ∀ (f : LineFlags) (d d' : Byte) (s : State), exec (.lerr f d) s = exec (.lerr f d') s ∧
    ∃ t, exec (.lerr f d) s = .next t ∧ t.phase = .idle ∧ (s.phase = .idle → SameFrame s t)
      ∧ (s.phase ≠ .idle → t.buf = [] ∧ t.cursor = 0)

/-- R139: in IDLE a TOUT has no effect. -/
def Obligations.TimeoutInIdleIsIgnored : Prop :=
  ∀ s : State, s.phase = .idle → exec .tout s = .next (withEventPorts .continue_ noFlags false none s)

/-- R140: outside IDLE a TOUT abandons the frame with Timeout, with no report. -/
def Obligations.TimeoutAbandonsFrame : Prop :=
  ∀ s : State, s.phase ≠ .idle →
    exec .tout s = .next (withEventPorts (.frameDiscarded .timeout) noFlags false none (withEmptyFrame s))

/-- R141, R235: a TOUT is acted on by phase alone, whatever the watchdog has done since it was posted, and leaves the
watchdog as it is. -/
def Obligations.StaleTimeoutIsNotFiltered : Prop :=
  ∀ (s : State) (armed : Bool) (count : Option Nat),
    ∃ t, exec .tout { s with wdArmed := armed, wdCount := count } = .next t
      ∧ t.wdArmed = armed ∧ t.wdCount = count
      ∧ t.outcome = some (if s.phase = .idle then .continue_ else .frameDiscarded .timeout) ∧ t.errRpt = noFlags
      ∧ (s.phase = .idle → SameFrame s t) ∧ (s.phase ≠ .idle → SameFrame (withEmptyFrame s) t)

/-! ### Watchdog (42_watchdog.md) -/

/-- R153: a TICK while disarmed has no effect. -/
def Obligations.TickWhileDisarmed : Prop :=
  ∀ s : State, s.wdArmed = false → exec .tick s = .next (withQuietPorts false s)

/-- R154: a TICK while armed with a count above 1 counts one tick; no event is posted. -/
def Obligations.TickCountsDown : Prop :=
  ∀ (n : Nat) (s : State), s.wdArmed = true → s.wdCount = some n → 1 < n →
    exec .tick s = .next (withQuietPorts false { s with wdCount := some (n - 1) })

/-- R155: a TICK while armed with count 1 is the expiry: the watchdog disarms, the word 0x8000 joins the tail of the
queue, and `wd_expire` pulses. -/
def Obligations.TickExpires : Prop :=
  ∀ s : State, s.wdArmed = true → s.wdCount = some 1 →
    exec .tick s = .next (withQuietPorts true
      { s with wdArmed := false, wdCount := none, queue := s.queue ++ [0x8000] })

/-- R156: where an Arm() and a TICK fall in the same instant the Arm() wins: the clock that consumes an arming event and
ticks ends as the clock that only consumes it, with the full count, and posts nothing. -/
def Obligations.ArmBeatsTick : Prop :=
  ∀ (s t : State) (w : EventWord) (q : List EventWord) (rest : List Move), s.queue = w :: q →
    step { s with schedule := .clock false true false :: rest } = .next t → t.arm = true →
    step { s with schedule := .clock false true true :: rest } = .next t
      ∧ t.wdArmed = true ∧ t.wdCount = some s.cfg.timeoutTicks ∧ t.wdExpire = false ∧ t.queue = q

/-- R152: the steps that call Arm() are exactly those of the table; every other event step leaves the watchdog as it
is. -/
def Obligations.ArmsExactlyAsListed : Prop :=
  ∀ (i : Instr) (s t : State), isEvent i = true → exec i s = .next t →
    t.arm = armsTable s i
      ∧ (armsTable s i = true → t.wdArmed = true ∧ t.wdCount = some s.cfg.timeoutTicks)
      ∧ (armsTable s i = false → t.wdArmed = s.wdArmed ∧ t.wdCount = s.wdCount)

/-- R158: nothing disarms the watchdog but its own expiry, which posts a TOUT, and reset. -/
def Obligations.OnlyExpiryAndResetDisarm : Prop :=
  ∀ s t : State, step s = .next t → s.wdArmed = true → t.wdArmed = false →
    (∃ o k rest, s.schedule = .clock true o k :: rest)
      ∨ (t.wdExpire = true ∧ s.wdCount = some 1 ∧ ∃ q, t.queue = q ++ [0x8000])

/-- R159, which the spec derives from R151, R154 and R155: after an Arm() the expiry is on the TIMEOUT_TICKS-th TICK that
follows it, and not before, if no further Arm() comes first. Events that do not arm may stand anywhere among the ticks.
The run answers a next state where it is of ticks alone, and from every state of R30 with any events (a reserved word only
where the implementation's line of R179 holds). After the expiry nothing more is posted (R155). -/
def Obligations.ExpiryOnLastTick : Prop :=
  ∀ (is : List Instr) (s : State), 1 ≤ s.cfg.timeoutTicks → s.wdArmed = true →
    s.wdCount = some s.cfg.timeoutTicks → NoFurtherArm is s →
    (∀ t, runInputs is s = .next t →
        (is.count .tick < s.cfg.timeoutTicks → t.wdArmed = true
            ∧ t.wdCount = some (s.cfg.timeoutTicks - is.count .tick) ∧ t.queue = s.queue)
          ∧ (s.cfg.timeoutTicks ≤ is.count .tick → t.wdArmed = false ∧ t.wdCount = none
            ∧ t.queue = s.queue ++ [0x8000])
          ∧ (is.count .tick = s.cfg.timeoutTicks → is.getLast? = some .tick → t.wdExpire = true))
      ∧ ((∀ i ∈ is, i = .tick) ∨ (s.Inv ∧ ∀ w, .reserved w ∈ is → s.cfg.reserved = .ignored) →
          ∃ t, runInputs is s = .next t)

/-- R157: a byte and an expiry of the same instant may be queued in either order: from one state both orders are
schedules, and each runs. -/
def Obligations.SameInstantPostsInEitherOrder : Prop :=
  ∀ (s : State) (v : Byte) (f : LineFlags), s.wdArmed = true → s.wdCount = some 1 →
    (∃ t u, step { s with schedule := [.post v f, .clock false false true] } = .next t ∧ step t = .next u
        ∧ u.queue = s.queue ++ [handleByteWord v f, 0x8000])
      ∧ ∃ t u, step { s with schedule := [.clock false false true, .post v f] } = .next t ∧ step t = .next u
          ∧ u.queue = s.queue ++ [0x8000, handleByteWord v f]

/-! ### Reset (70_reset_and_hazards.md) and reserved words (30_encoding.md) -/

/-- RESET on every field of the state: R41's values and the ports of the reset clock. That `payload` and `arm` are empty
is the model's choice (log 4, log 9). -/
def Obligations.ResetInputSetsEveryField : Prop :=
  ∀ s : State, exec .reset s = .next { withEmptyFrame s with
    wdArmed := false, wdCount := none, evtReady := false, outcome := none, errRpt := noFlags, wdExpire := false
    arm := false, payload := none }

/-- R230, R231: a clock with `rst = 1`, whatever else it offers, sets every field to its reset value, emits no outcome and
no report, posts no TOUT and consumes no event; `evt_ready` is 0; it is the step of RESET alone. -/
def Obligations.ResetBeatsOtherInputs : Prop :=
  ∀ (s : State) (offer tick : Bool) (rest : List Move), s.schedule = .clock true offer tick :: rest →
    ∃ t, step s = .next t ∧ exec .reset { s with schedule := rest, freeCount := s.freeCount + 1 } = .next t
      ∧ t.phase = .idle ∧ (∀ a, Memory.read t.buf a = none) ∧ t.cursor = 0 ∧ t.lenHi = none ∧ t.declLen = none
      ∧ t.remaining = none ∧ t.csum = none ∧ t.wdArmed = false ∧ t.wdCount = none
      ∧ t.outcome = none ∧ t.errRpt = noFlags ∧ t.wdExpire = false ∧ t.queue = s.queue ∧ t.evtReady = false

/-- R41: the values after reset, and legal parameters (R2, R4), whatever they are. -/
def Obligations.ResetStateValues : Prop :=
  State.reset.phase = .idle ∧ (∀ a, Memory.read State.reset.buf a = none) ∧ State.reset.cursor = 0
    ∧ State.reset.lenHi = none ∧ State.reset.declLen = none ∧ State.reset.remaining = none ∧ State.reset.csum = none
    ∧ State.reset.wdArmed = false ∧ State.reset.wdCount = none
    ∧ 4 ≤ State.reset.cfg.bufCap ∧ State.reset.cfg.bufCap ≤ 65539 ∧ 1 ≤ State.reset.cfg.timeoutTicks

/-- R81, R179: on the implementation's line a reserved word changes no field of the block, calls no Arm(), and gives
Continue with no report; on the model's line it is refused. Which line holds is the model's parameter (log 3). That an
ignored word closes the payload window is the model's choice (log 9). -/
def Obligations.ReservedWordIgnoredOrRefused : Prop :=
  ∀ (w : EventWord) (s : State),
    (s.cfg.reserved = .ignored →
        exec (.reserved w) s = .next (withEventPorts .continue_ noFlags false none s))
      ∧ (s.cfg.reserved = .refused → exec (.reserved w) s = .refused (.reservedWord w))

/-! ### The step (43_interface_and_step.md) -/

/-- A clock that offers the head of the queue runs exactly the decoded input, on the state with that word taken from the
queue. Around it the step takes the move off the schedule and advances the free counter, both the model's own (log 5,
log 10). -/
def Obligations.StepRunsDecodedInput : Prop :=
  ∀ (s : State) (w : EventWord) (q : List EventWord) (rest : List Move),
    s.queue = w :: q → s.schedule = .clock false true false :: rest →
    step s = exec (decode w) { s with queue := q, schedule := rest, freeCount := s.freeCount + 1 }

/-- The other moves of R182: a SourcePost appends one word; a tick alone is TICK; a clock with no input leaves the block as
it is. Three clauses are the model's choice: an offer with an empty queue is no offer (log 8), the empty schedule is a
clock with no input (log 5), and in a clock that consumes an event and ticks the event comes first (log 8): where its step
does not arm, the tick then counts by R153 to R155, and where it stops, the clock stops the same. The schedule and the
free counter are the model's own (log 5, log 10). -/
def Obligations.StepRunsOtherMoves : Prop :=
  ∀ (s : State) (rest : List Move),
    (∀ (v : Byte) (f : LineFlags), s.schedule = .post v f :: rest →
        step s = .next (withQuietPorts false { s with
          queue := s.queue ++ [handleByteWord v f], schedule := rest, freeCount := s.freeCount + 1 }))
      ∧ (s.schedule = .clock false false true :: rest →
          step s = exec .tick { s with schedule := rest, freeCount := s.freeCount + 1 })
      ∧ (s.schedule = .clock false false false :: rest →
          step s = .next (withQuietPorts false { s with schedule := rest, freeCount := s.freeCount + 1 }))
      ∧ (∀ k, s.schedule = .clock false true k :: rest → s.queue = [] →
          step s = step { s with schedule := .clock false false k :: rest })
      ∧ (s.schedule = [] → step s = .next (withQuietPorts false { s with freeCount := s.freeCount + 1 }))
      ∧ ∀ (w : EventWord) (q : List EventWord), s.queue = w :: q → s.schedule = .clock false true true :: rest →
          (∀ t, step { s with schedule := .clock false true false :: rest } = .next t → t.arm = false →
              step s = tickWatchdog t
                ∧ (t.wdArmed = false → step s = .next t)
                ∧ (∀ n, t.wdArmed = true → t.wdCount = some n → 1 < n →
                    step s = .next { t with wdCount := some (n - 1) })
                ∧ (t.wdArmed = true → t.wdCount = some 1 →
                    step s = .next { t with
                      wdArmed := false, wdCount := none, queue := t.queue ++ [0x8000], wdExpire := true }))
            ∧ ((∀ t, step { s with schedule := .clock false true false :: rest } ≠ .next t) →
                step s = step { s with schedule := .clock false true false :: rest })

/-- R60, R182: the queue is first-in first-out. A step takes at most the oldest word and adds at most one, at the tail:
the word of a SourcePost, or the TOUT of an expiry. -/
def Obligations.QueueIsFirstInFirstOut : Prop :=
  ∀ s t : State, step s = .next t →
    ∃ taken kept added : List EventWord, s.queue = taken ++ kept ∧ t.queue = kept ++ added
      ∧ (taken = [] ∨ ∃ w k rest, taken = [w] ∧ s.schedule = .clock false true k :: rest)
      ∧ (added = [] ∨ (added = [0x8000] ∧ t.wdExpire = true)
          ∨ ∃ v f rest, s.schedule = .post v f :: rest ∧ added = [handleByteWord v f] ∧ taken = [])

/-- R59, R51, R54: what an event step stores. From a phase other than IDLE to a phase other than IDLE it is one byte, at
the cursor, and every other cell reads as before; a step that ends in IDLE leaves the buffer empty. -/
def Obligations.EventStoresOneByteAtCursor : Prop :=
  ∀ (i : Instr) (s t : State), s.Inv → isEvent i = true → exec i s = .next t →
    (t.phase = .idle → ∀ a, Memory.read t.buf a = none)
      ∧ (t.phase ≠ .idle → (∃ w, i = .reserved w ∧ SameFrame s t) ∨
          ∃ b, i = .byte b ∧ Memory.read t.buf s.cursor = some b ∧ t.cursor = s.cursor + 1
            ∧ ∀ a, a ≠ s.cursor → Memory.read t.buf a = Memory.read s.buf a)
      ∧ SameEnv s t ∧ t.cfg = s.cfg

/-! ### Invariants and whole-machine rules -/

/-- Reset meets the invariant (R41, R30). -/
def Obligations.ResetMeetsInvariant : Prop := State.reset.Inv ∧ CleanQueue State.reset

/-- R30, R29, R2, R4: every step keeps the table of R30 and the watchdog's range. -/
def Obligations.StepKeepsInvariant : Prop := ∀ s t : State, s.Inv → step s = .next t → t.Inv

/-- The table of R30, which the spec derives from the step rules: in every state a run reaches from reset, whatever
legal parameters the block has, whatever waits in the queue and whatever the environment does, the fields hold values
as the table says, and no cell at or above the cursor holds one. -/
def Obligations.ReachableStatesAreInTheTable : Prop :=
  ∀ (p : Params) (q : List EventWord) (moves : List Move) (n : Nat) (t : State), p.wf →
    Sys2Proof.core.run n { State.resetWith p with queue := q, schedule := moves } = .next t →
    FrameInv t ∧ WatchdogInv t ∧ t.cursor ≤ t.cfg.bufCap ∧ ∀ a, t.cursor ≤ a → Memory.read t.buf a = none

/-- Every step keeps the buffer in canonical form, from any state at all. That the buffer is a list of the cells that hold
a byte, by rising index, is the model's representation (log 14). -/
def Obligations.BufferStaysCanonical : Prop :=
  ∀ s t : State, Memory.wf s.buf → step s = .next t → Memory.wf t.buf

/-- R184, R174: the environment's moves and the watchdog queue no reserved word, so a queue free of them stays so. -/
def Obligations.CleanQueueStaysClean : Prop :=
  ∀ s t : State, CleanQueue s → step s = .next t → CleanQueue t

/-- R185: the block never stops: from every state of R30, with no reserved word in the queue, or whatever the queue where
the implementation's line of R179 holds, the step answers a next state, and that is a state of R30 again. -/
def Obligations.BlockNeverStops : Prop :=
  ∀ s : State, s.Inv → CleanQueue s ∨ s.cfg.reserved = .ignored → ∃ t, step s = .next t ∧ t.Inv

/-- R1: the parameters are fixed for the life of the block. -/
def Obligations.ParametersAreFixed : Prop := ∀ s t : State, step s = .next t → t.cfg = s.cfg

/-- In BODY the cell of the checksum byte exists, `cursor <= BUF_CAP - 1`, as R31 derives it from R30; and in any phase
the cursor never exceeds the capacity (R24). -/
def Obligations.CursorStaysInBuffer : Prop :=
  ∀ s : State, s.Inv → s.cursor ≤ s.cfg.bufCap ∧ (s.phase = .body → s.cursor + 1 ≤ s.cfg.bufCap)

/-- R181, which the spec derives from R180: a step from another phase into IDLE resets the buffer and emits exactly one
FrameComplete or FrameDiscarded; every step that stays out of IDLE, or leaves it, emits Continue; a step that stays in
IDLE emits neither of the two. -/
def Obligations.EachFrameEndsWithOneOutcome : Prop :=
  ∀ (i : Instr) (s t : State), s.Inv → isEvent i = true → exec i s = .next t →
    (s.phase ≠ .idle → t.phase = .idle →
        t.buf = [] ∧ t.cursor = 0 ∧ t.lenHi = none ∧ t.declLen = none ∧ t.remaining = none ∧ t.csum = none
          ∧ ((∃ p, t.outcome = some (.frameComplete p)) ∨ ∃ r, t.outcome = some (.frameDiscarded r)))
      ∧ (t.phase ≠ .idle ∨ s.phase = .idle → t.outcome = some .continue_)

/-- R72, the half of its "exactly" that the source does not give being the spec's own inference: the block completes
exactly the well-formed frames that fit. Feeding `Frame(p)` from IDLE, with any number of ticks anywhere between its
bytes and no LERR or TOUT, gives `L + 3` Continue outcomes and then exactly one FrameComplete with that payload. Where
any input completes a frame with payload `p`, it is a byte, and the bytes the buffer holds with that byte are
`Frame(p)`, which fits. And in a run from IDLE the bytes of a completed frame came as consecutive BYTE events from
IDLE: no LERR, no TOUT and no reset is among them. -/
def Obligations.ExactlyWellFormedFramesComplete : Prop :=
  (∀ (p : List Byte) (is : List Instr) (s : State), s.Inv → s.phase = .idle → p.length + 4 ≤ s.cfg.bufCap →
      is.filter (fun i => decide (i ≠ .tick)) = byteInputs (frameBytes p) →
      ∃ t, observeInputs is s =
          .next (List.replicate (p.length + 3) (.continue_, noFlags) ++ [(.frameComplete p, noFlags)], t)
        ∧ t.phase = .idle ∧ t.Inv)
    ∧ (∀ (i : Instr) (p : List Byte) (s t : State), s.Inv → exec i s = .next t →
        t.outcome = some (.frameComplete p) →
        ∃ c, i = .byte c ∧ s.buf.map Prod.snd ++ [c] = frameBytes p ∧ p.length + 4 ≤ s.cfg.bufCap)
    ∧ ∀ (is : List Instr) (i : Instr) (p : List Byte) (s t : State), s.Inv → s.phase = .idle →
        runInputs (is ++ [i]) s = .next t → t.outcome = some (.frameComplete p) →
        ∃ (before during : List Instr) (u : State), is ++ [i] = before ++ during ∧ runInputs before s = .next u
          ∧ u.phase = .idle ∧ during.filter touchesFrame = byteInputs (frameBytes p)

/-- R177: from a FrameComplete step on, `out_len` is the payload's length and `pl_data` gives its bytes; ticks do not
close the window (log 9), and the next event that emits no FrameComplete does. Past the payload, or with the window
closed, the port shows the free value of the step, about which nothing is known. -/
def Obligations.PayloadWindow : Prop :=
  (∀ (i : Instr) (p : List Byte) (s t : State), s.Inv → exec i s = .next t → t.outcome = some (.frameComplete p) →
      (outLen (.frameComplete p)).toNat = p.length
        ∧ (∀ a : BitVec 16, a.toNat < p.length → p[a.toNat]? = some (plData t a))
        ∧ ∀ a : BitVec 16, p.length ≤ a.toNat → plData t a = Config.plDataFree t.freeCount a)
    ∧ (∀ s t : State, exec .tick s = .next t → t.payload = s.payload)
    ∧ ∀ (i : Instr) (s t : State), isEvent i = true → exec i s = .next t →
        (∀ p, t.outcome ≠ some (.frameComplete p)) →
        t.payload = none ∧ ∀ a : BitVec 16, plData t a = Config.plDataFree t.freeCount a

/-- R34, R40: what an event step does to the frame fields, and what it shows, depends on the frame fields and the
parameters alone: not on the watchdog, on an earlier outcome or report, on the payload window or on the queue. -/
def Obligations.EventStepReadsOnlyFrame : Prop :=
  ∀ (i : Instr) (s s' t : State), SameFrame s s' → isEvent i = true → exec i s = .next t →
    ∃ t', exec i s' = .next t' ∧ SameFrame t t' ∧ t'.outcome = t.outcome ∧ t'.errRpt = t.errRpt ∧ t'.arm = t.arm
      ∧ t'.payload = t.payload

/-- R170, R172: every step on an event word emits one outcome, `out_valid` with `evt_ready`, and no `wd_expire`; a TICK
or RESET emits none. -/
def Obligations.OneOutcomePerEvent : Prop :=
  (∀ (i : Instr) (s t : State), isEvent i = true → exec i s = .next t →
      outValid t = true ∧ t.evtReady = true ∧ t.wdExpire = false)
    ∧ ∀ s t : State, exec .tick s = .next t ∨ exec .reset s = .next t → outValid t = false

/-- R52: an append past the capacity faults, and one below it writes at the cursor and advances it; a read after it gives
the byte, and every other cell reads as before. -/
def Obligations.AppendIsBounded : Prop :=
  ∀ (b : Byte) (s : State),
    (s.cfg.bufCap ≤ s.cursor → bufAppend b s = .fault .appendPastCapacity)
      ∧ (s.cursor < s.cfg.bufCap → ∃ t, bufAppend b s = .next t ∧ t.cursor = s.cursor + 1
          ∧ Memory.read t.buf s.cursor = some b ∧ ∀ a, a ≠ s.cursor → Memory.read t.buf a = Memory.read s.buf a)

/-- A word placed by withFetchWord is what the very next step runs. The placing, at the head of the queue with a clock that
offers it, is the model's choice (log 16), and the free counter is the model's own (log 10). -/
def Obligations.PlacedWordRunsNext : Prop :=
  ∀ (s : State) (nbits w : Nat), w < 65536 →
    step (s.withFetchWord nbits w) =
      exec (decode (BitVec.ofNat 16 w)) { s with freeCount := s.freeCount + 1 }
end

