-- ==== Sys2Proof/Laws/Decode.lean ====
section
/-! SUPPORT. The fields of a packed word, the flag bits, and the byte arithmetic of the block. -/

namespace Sys2Proof

@[simp] theorem wordKind_packWord (k r : BitVec 2) (f : BitVec 4) (d : Byte) : wordKind (packWord k r f d) = k := by
  apply BitVec.eq_of_getLsbD_eq
  intro i hi
  simp only [wordKind, packWord, BitVec.getLsbD_extractLsb', BitVec.getLsbD_append]
  interval_cases i <;> simp

@[simp] theorem wordRsv_packWord (k r : BitVec 2) (f : BitVec 4) (d : Byte) : wordRsv (packWord k r f d) = r := by
  apply BitVec.eq_of_getLsbD_eq
  intro i hi
  simp only [wordRsv, packWord, BitVec.getLsbD_extractLsb', BitVec.getLsbD_append]
  interval_cases i <;> simp

@[simp] theorem wordFlags_packWord (k r : BitVec 2) (f : BitVec 4) (d : Byte) : wordFlags (packWord k r f d) = f := by
  apply BitVec.eq_of_getLsbD_eq
  intro i hi
  simp only [wordFlags, packWord, BitVec.getLsbD_extractLsb', BitVec.getLsbD_append]
  interval_cases i <;> simp

@[simp] theorem wordData_packWord (k r : BitVec 2) (f : BitVec 4) (d : Byte) : wordData (packWord k r f d) = d := by
  apply BitVec.eq_of_getLsbD_eq
  intro i hi
  simp only [wordData, packWord, BitVec.getLsbD_extractLsb', BitVec.getLsbD_append]
  interval_cases i <;> simp

/-- A word is the pack of its four fields (R74). -/
theorem packWord_fields (w : EventWord) : packWord (wordKind w) (wordRsv w) (wordFlags w) (wordData w) = w := by
  apply BitVec.eq_of_getLsbD_eq
  intro i hi
  simp only [wordKind, wordRsv, wordFlags, wordData, packWord, BitVec.getLsbD_extractLsb', BitVec.getLsbD_append]
  interval_cases i <;> simp

/-- Two packed words are equal exactly where their fields are. -/
theorem packWord_inj {k k' r r' : BitVec 2} {f f' : BitVec 4} {d d' : Byte} :
    packWord k r f d = packWord k' r' f' d' ↔ k = k' ∧ r = r' ∧ f = f' ∧ d = d' := by
  constructor
  · intro h
    exact ⟨by simpa using congrArg wordKind h, by simpa using congrArg wordRsv h,
      by simpa using congrArg wordFlags h, by simpa using congrArg wordData h⟩
  · rintro ⟨rfl, rfl, rfl, rfl⟩
    rfl

/-- The operand bits of a word with RSV 0 are its FLAGS and DATA. -/
theorem wordOperands_packWord (k : BitVec 2) (f : BitVec 4) (d : Byte) :
    wordOperands (packWord k 0#2 f d) = 0#14 ↔ f = 0#4 ∧ d = 0#8 := by
  constructor
  · intro e
    have bits : ∀ i, (wordOperands (packWord k 0#2 f d)).getLsbD i = false := fun i => by rw [e]; simp
    simp only [wordOperands, packWord, BitVec.getLsbD_extractLsb', BitVec.getLsbD_append] at bits
    constructor <;> apply BitVec.eq_of_getLsbD_eq <;> intro i hi
    · have := bits (8 + i)
      interval_cases i <;> simpa using this
    · have := bits i
      interval_cases i <;> simpa using this
  · rintro ⟨rfl, rfl⟩
    revert k
    decide

/-- The decoder on a packed word: R82, field by field. -/
theorem decode_packWord (k r : BitVec 2) (f : BitVec 4) (d : Byte) :
    decode (packWord k r f d) =
      if r ≠ 0#2 then .reserved (packWord k r f d)
      else if k = 0#2 then if f = 0#4 then .byte d else .reserved (packWord k r f d)
      else if k = 1#2 then if f ≠ 0#4 then .lerr (flagsOfBits f) d else .reserved (packWord k r f d)
      else if k = 2#2 then if f = 0#4 ∧ d = 0#8 then .tout else .reserved (packWord k r f d)
      else .reserved (packWord k r f d) := by
  unfold decode
  by_cases hr : r = 0#2
  · subst hr
    simp only [wordKind_packWord, wordRsv_packWord, wordFlags_packWord, wordData_packWord, wordOperands_packWord]
  · simp only [wordRsv_packWord, ne_eq, hr, not_false_eq_true, if_true]

@[simp] theorem flagsOfBits_bitsOfFlags (f : LineFlags) : flagsOfBits (bitsOfFlags f) = f := by
  obtain ⟨a, b, c, d⟩ := f
  revert a b c d
  decide

@[simp] theorem bitsOfFlags_flagsOfBits (x : BitVec 4) : bitsOfFlags (flagsOfBits x) = x := by
  revert x
  decide

/-- A flag set is empty exactly where its bits are 0. -/
theorem bitsOfFlags_eq_zero (f : LineFlags) : bitsOfFlags f = 0#4 ↔ f.any = false := by
  obtain ⟨a, b, c, d⟩ := f
  revert a b c d
  decide

theorem any_flagsOfBits (x : BitVec 4) : (flagsOfBits x).any = true ↔ x ≠ 0#4 := by
  revert x
  decide

namespace Machine

/-- The declared length in exact arithmetic (R71). -/
theorem declaredLength_toNat (hi lo : Byte) : (declaredLength hi lo).toNat = hi.toNat * 256 + lo.toNat := by
  have h : declaredLength hi lo = hi ++ lo := by
    apply BitVec.eq_of_getLsbD_eq
    intro i hi
    simp only [declaredLength, BitVec.getLsbD_or, BitVec.getLsbD_shiftLeft, BitVec.getLsbD_setWidth,
      BitVec.getLsbD_append]
    interval_cases i <;> simp
  rw [h, BitVec.toNat_append, Nat.shiftLeft_eq, Nat.mul_comm, ← Nat.two_pow_add_eq_or_of_lt lo.isLt]

@[simp] theorem declaredLength_high (hi lo : Byte) : (declaredLength hi lo).extractLsb' 8 8 = hi := by
  apply BitVec.eq_of_getLsbD_eq
  intro i hi
  simp only [declaredLength, BitVec.getLsbD_extractLsb', BitVec.getLsbD_or, BitVec.getLsbD_shiftLeft,
    BitVec.getLsbD_setWidth]
  interval_cases i <;> simp

@[simp] theorem declaredLength_low (hi lo : Byte) : (declaredLength hi lo).extractLsb' 0 8 = lo := by
  apply BitVec.eq_of_getLsbD_eq
  intro i hi
  simp only [declaredLength, BitVec.getLsbD_extractLsb', BitVec.getLsbD_or, BitVec.getLsbD_shiftLeft,
    BitVec.getLsbD_setWidth]
  interval_cases i <;> simp

/-- The two bytes of a length give it back. -/
theorem declaredLength_extract (len : BitVec 16) :
    declaredLength (len.extractLsb' 8 8) (len.extractLsb' 0 8) = len := by
  apply BitVec.eq_of_getLsbD_eq
  intro i hi
  simp only [declaredLength, BitVec.getLsbD_extractLsb', BitVec.getLsbD_or, BitVec.getLsbD_shiftLeft,
    BitVec.getLsbD_setWidth]
  interval_cases i <;> simp

/-- The capacity test is the exact comparison of R106. -/
theorem overflows_eq (cap : Nat) (len : BitVec 16) : overflows cap len = decide (cap < len.toNat + 4) := rfl

/-- One more byte in the sum (R108). -/
theorem byteSum_append (p : List Byte) (b : Byte) : byteSum (p ++ [b]) = addToSum (byteSum p) b := by
  simp [byteSum, List.foldl_append]

end Machine

end Sys2Proof
end

