-- ==== Sys2Proof/Laws/Memory.lean ====
section
/-! SUPPORT. The payload buffer: a write keeps the canonical form, a read after a write, and the buffer as consecutive
cells. -/

namespace Sys2Proof.Machine

/-- Every index a write leaves listed was listed or is the written one. -/
theorem Memory.mem_keys_write {m : Memory} {a k : Nat} {b : Byte} (h : k ∈ (m.write a b).map Prod.fst) :
    k = a ∨ k ∈ m.map Prod.fst := by
  induction m with
  | nil => simpa [Memory.write] using h
  | cons c m ih =>
    obtain ⟨i, v⟩ := c
    simp only [Memory.write] at h
    split at h
    · simpa using h
    · split at h
      · simp only [List.map_cons, List.mem_cons] at h ⊢
        tauto
      · simp only [List.map_cons, List.mem_cons] at h ⊢
        rcases h with h | h
        · exact .inr (.inl h)
        · exact (ih h).imp id .inr

/-- A write keeps the canonical form. -/
theorem Memory.wf_write {m : Memory} (h : Memory.wf m) (a : Nat) (b : Byte) : Memory.wf (m.write a b) := by
  induction m with
  | nil => simp [Memory.write, Memory.wf]
  | cons c m ih =>
    obtain ⟨i, v⟩ := c
    simp only [Memory.wf, List.map_cons, List.pairwise_cons] at h
    simp only [Memory.write]
    split
    · next hlt =>
      simp only [Memory.wf, List.map_cons, List.pairwise_cons, List.mem_cons, forall_eq_or_imp]
      exact ⟨⟨hlt, fun k hk => hlt.trans (h.1 k hk)⟩, h⟩
    · split
      · next heq => simpa [Memory.wf, heq] using h
      · next hlt hne =>
        simp only [Memory.wf, List.map_cons, List.pairwise_cons]
        refine ⟨fun k hk => ?_, ih h.2⟩
        rcases Memory.mem_keys_write hk with rfl | hk
        · omega
        · exact h.1 k hk

@[simp] theorem Memory.wf_nil : Memory.wf [] := List.Pairwise.nil

@[simp] theorem Memory.read_nil (a : Nat) : Memory.read [] a = none := rfl

/-- A read of the cell just written. -/
@[simp] theorem Memory.read_write_same (m : Memory) (a : Nat) (b : Byte) : (m.write a b).read a = some b := by
  induction m with
  | nil => simp [Memory.write, Memory.read]
  | cons c m ih =>
    obtain ⟨i, v⟩ := c
    simp only [Memory.write]
    split
    · simp [Memory.read]
    · split
      · simp [Memory.read]
      · next h => simpa [Memory.read, h] using ih

/-- A write leaves every other cell alone. -/
theorem Memory.read_write_other (m : Memory) {a a' : Nat} (b : Byte) (h : a' ≠ a) :
    (m.write a b).read a' = m.read a' := by
  induction m with
  | nil => simp [Memory.write, Memory.read, h]
  | cons c m ih =>
    obtain ⟨i, v⟩ := c
    simp only [Memory.write]
    split
    · simp [Memory.read, h]
    · split
      · next heq => simp [Memory.read, h, heq ▸ h]
      · simp only [Memory.read]
        split
        · rfl
        · exact ih

theorem cellsFrom_append (i : Nat) (bs cs : List Byte) :
    cellsFrom i (bs ++ cs) = cellsFrom i bs ++ cellsFrom (i + bs.length) cs := by
  induction bs generalizing i with
  | nil => simp [cellsFrom]
  | cons b bs ih => simp [cellsFrom, ih, Nat.add_assoc, Nat.add_comm 1]

@[simp] theorem map_snd_cellsFrom (i : Nat) (bs : List Byte) : (cellsFrom i bs).map Prod.snd = bs := by
  induction bs generalizing i with
  | nil => rfl
  | cons b bs ih => simp [cellsFrom, ih]

/-- An append at the end of consecutive cells (R52). -/
theorem Memory.write_cellsFrom (i : Nat) (bs : List Byte) (b : Byte) :
    (cellsFrom i bs).write (i + bs.length) b = cellsFrom i (bs ++ [b]) := by
  induction bs generalizing i with
  | nil => simp [cellsFrom, Memory.write]
  | cons c bs ih =>
    have h : i + (bs.length + 1) = i + 1 + bs.length := by omega
    simp only [List.length_cons, List.cons_append, cellsFrom, Memory.write, h, ih]
    rw [if_neg (by omega), if_neg (by omega)]

/-- A read of consecutive cells. -/
theorem Memory.read_cellsFrom (i k : Nat) (bs : List Byte) : (cellsFrom i bs).read (i + k) = bs[k]? := by
  induction bs generalizing i k with
  | nil => simp [cellsFrom]
  | cons b bs ih =>
    cases k with
    | zero => simp [cellsFrom, Memory.read]
    | succ k =>
      have h : i + (k + 1) = i + 1 + k := by omega
      simp only [cellsFrom, Memory.read, h, ih]
      rw [if_neg (by omega)]
      simp

/-- Below the first index nothing is listed. -/
theorem Memory.read_cellsFrom_below {i a : Nat} (h : a < i) (bs : List Byte) : (cellsFrom i bs).read a = none := by
  induction bs generalizing i with
  | nil => rfl
  | cons b bs ih =>
    simp only [cellsFrom, Memory.read]
    rw [if_neg (by omega)]
    exact ih (by omega)

theorem le_of_mem_keys_cellsFrom {i k : Nat} {bs : List Byte} (h : k ∈ (cellsFrom i bs).map Prod.fst) : i ≤ k := by
  induction bs generalizing i with
  | nil => simp [cellsFrom] at h
  | cons b bs ih =>
    simp only [cellsFrom, List.map_cons, List.mem_cons] at h
    rcases h with rfl | h
    · exact Nat.le_refl _
    · exact Nat.le_of_succ_le (ih h)

/-- Consecutive cells are in canonical form. -/
theorem Memory.wf_cellsFrom (i : Nat) (bs : List Byte) : Memory.wf (cellsFrom i bs) := by
  induction bs generalizing i with
  | nil => simp [cellsFrom]
  | cons b bs ih =>
    simp only [Memory.wf, cellsFrom, List.map_cons, List.pairwise_cons]
    exact ⟨fun k hk => le_of_mem_keys_cellsFrom hk, ih (i + 1)⟩

end Sys2Proof.Machine
end

