-- ==== Sys2Proof/Laws/State.lean ====
section
/-! SUPPORT. One lemma per field of State per named update, true by rfl, so that no proof unfolds a record update. -/

namespace Sys2Proof.Machine

@[simp] theorem openClock_cfg (s : State) : (openClock s).cfg = s.cfg := rfl
@[simp] theorem openClock_phase (s : State) : (openClock s).phase = s.phase := rfl
@[simp] theorem openClock_buf (s : State) : (openClock s).buf = s.buf := rfl
@[simp] theorem openClock_cursor (s : State) : (openClock s).cursor = s.cursor := rfl
@[simp] theorem openClock_lenHi (s : State) : (openClock s).lenHi = s.lenHi := rfl
@[simp] theorem openClock_declLen (s : State) : (openClock s).declLen = s.declLen := rfl
@[simp] theorem openClock_remaining (s : State) : (openClock s).remaining = s.remaining := rfl
@[simp] theorem openClock_csum (s : State) : (openClock s).csum = s.csum := rfl
@[simp] theorem openClock_wdArmed (s : State) : (openClock s).wdArmed = s.wdArmed := rfl
@[simp] theorem openClock_wdCount (s : State) : (openClock s).wdCount = s.wdCount := rfl
@[simp] theorem openClock_evtReady (s : State) : (openClock s).evtReady = true := rfl
@[simp] theorem openClock_outcome (s : State) : (openClock s).outcome = none := rfl
@[simp] theorem openClock_errRpt (s : State) : (openClock s).errRpt = noFlags := rfl
@[simp] theorem openClock_wdExpire (s : State) : (openClock s).wdExpire = false := rfl
@[simp] theorem openClock_arm (s : State) : (openClock s).arm = false := rfl
@[simp] theorem openClock_payload (s : State) : (openClock s).payload = s.payload := rfl
@[simp] theorem openClock_queue (s : State) : (openClock s).queue = s.queue := rfl
@[simp] theorem openClock_schedule (s : State) : (openClock s).schedule = s.schedule := rfl
@[simp] theorem openClock_freeCount (s : State) : (openClock s).freeCount = s.freeCount := rfl

@[simp] theorem openEvent_cfg (s : State) : (openEvent s).cfg = s.cfg := rfl
@[simp] theorem openEvent_phase (s : State) : (openEvent s).phase = s.phase := rfl
@[simp] theorem openEvent_buf (s : State) : (openEvent s).buf = s.buf := rfl
@[simp] theorem openEvent_cursor (s : State) : (openEvent s).cursor = s.cursor := rfl
@[simp] theorem openEvent_lenHi (s : State) : (openEvent s).lenHi = s.lenHi := rfl
@[simp] theorem openEvent_declLen (s : State) : (openEvent s).declLen = s.declLen := rfl
@[simp] theorem openEvent_remaining (s : State) : (openEvent s).remaining = s.remaining := rfl
@[simp] theorem openEvent_csum (s : State) : (openEvent s).csum = s.csum := rfl
@[simp] theorem openEvent_wdArmed (s : State) : (openEvent s).wdArmed = s.wdArmed := rfl
@[simp] theorem openEvent_wdCount (s : State) : (openEvent s).wdCount = s.wdCount := rfl
@[simp] theorem openEvent_evtReady (s : State) : (openEvent s).evtReady = true := rfl
@[simp] theorem openEvent_outcome (s : State) : (openEvent s).outcome = none := rfl
@[simp] theorem openEvent_errRpt (s : State) : (openEvent s).errRpt = noFlags := rfl
@[simp] theorem openEvent_wdExpire (s : State) : (openEvent s).wdExpire = false := rfl
@[simp] theorem openEvent_arm (s : State) : (openEvent s).arm = false := rfl
@[simp] theorem openEvent_payload (s : State) : (openEvent s).payload = none := rfl
@[simp] theorem openEvent_queue (s : State) : (openEvent s).queue = s.queue := rfl
@[simp] theorem openEvent_schedule (s : State) : (openEvent s).schedule = s.schedule := rfl
@[simp] theorem openEvent_freeCount (s : State) : (openEvent s).freeCount = s.freeCount := rfl

@[simp] theorem bufReset_cfg (s : State) : (bufReset s).cfg = s.cfg := rfl
@[simp] theorem bufReset_phase (s : State) : (bufReset s).phase = s.phase := rfl
@[simp] theorem bufReset_buf (s : State) : (bufReset s).buf = [] := rfl
@[simp] theorem bufReset_cursor (s : State) : (bufReset s).cursor = 0 := rfl
@[simp] theorem bufReset_lenHi (s : State) : (bufReset s).lenHi = none := rfl
@[simp] theorem bufReset_declLen (s : State) : (bufReset s).declLen = none := rfl
@[simp] theorem bufReset_remaining (s : State) : (bufReset s).remaining = none := rfl
@[simp] theorem bufReset_csum (s : State) : (bufReset s).csum = none := rfl
@[simp] theorem bufReset_wdArmed (s : State) : (bufReset s).wdArmed = s.wdArmed := rfl
@[simp] theorem bufReset_wdCount (s : State) : (bufReset s).wdCount = s.wdCount := rfl
@[simp] theorem bufReset_evtReady (s : State) : (bufReset s).evtReady = s.evtReady := rfl
@[simp] theorem bufReset_outcome (s : State) : (bufReset s).outcome = s.outcome := rfl
@[simp] theorem bufReset_errRpt (s : State) : (bufReset s).errRpt = s.errRpt := rfl
@[simp] theorem bufReset_wdExpire (s : State) : (bufReset s).wdExpire = s.wdExpire := rfl
@[simp] theorem bufReset_arm (s : State) : (bufReset s).arm = s.arm := rfl
@[simp] theorem bufReset_payload (s : State) : (bufReset s).payload = s.payload := rfl
@[simp] theorem bufReset_queue (s : State) : (bufReset s).queue = s.queue := rfl
@[simp] theorem bufReset_schedule (s : State) : (bufReset s).schedule = s.schedule := rfl
@[simp] theorem bufReset_freeCount (s : State) : (bufReset s).freeCount = s.freeCount := rfl

@[simp] theorem armWatchdog_cfg (s : State) : (armWatchdog s).cfg = s.cfg := rfl
@[simp] theorem armWatchdog_phase (s : State) : (armWatchdog s).phase = s.phase := rfl
@[simp] theorem armWatchdog_buf (s : State) : (armWatchdog s).buf = s.buf := rfl
@[simp] theorem armWatchdog_cursor (s : State) : (armWatchdog s).cursor = s.cursor := rfl
@[simp] theorem armWatchdog_lenHi (s : State) : (armWatchdog s).lenHi = s.lenHi := rfl
@[simp] theorem armWatchdog_declLen (s : State) : (armWatchdog s).declLen = s.declLen := rfl
@[simp] theorem armWatchdog_remaining (s : State) : (armWatchdog s).remaining = s.remaining := rfl
@[simp] theorem armWatchdog_csum (s : State) : (armWatchdog s).csum = s.csum := rfl
@[simp] theorem armWatchdog_wdArmed (s : State) : (armWatchdog s).wdArmed = true := rfl
@[simp] theorem armWatchdog_wdCount (s : State) : (armWatchdog s).wdCount = some s.cfg.timeoutTicks := rfl
@[simp] theorem armWatchdog_evtReady (s : State) : (armWatchdog s).evtReady = s.evtReady := rfl
@[simp] theorem armWatchdog_outcome (s : State) : (armWatchdog s).outcome = s.outcome := rfl
@[simp] theorem armWatchdog_errRpt (s : State) : (armWatchdog s).errRpt = s.errRpt := rfl
@[simp] theorem armWatchdog_wdExpire (s : State) : (armWatchdog s).wdExpire = s.wdExpire := rfl
@[simp] theorem armWatchdog_arm (s : State) : (armWatchdog s).arm = true := rfl
@[simp] theorem armWatchdog_payload (s : State) : (armWatchdog s).payload = s.payload := rfl
@[simp] theorem armWatchdog_queue (s : State) : (armWatchdog s).queue = s.queue := rfl
@[simp] theorem armWatchdog_schedule (s : State) : (armWatchdog s).schedule = s.schedule := rfl
@[simp] theorem armWatchdog_freeCount (s : State) : (armWatchdog s).freeCount = s.freeCount := rfl

@[simp] theorem setPhase_cfg (p : Phase) (s : State) : (setPhase p s).cfg = s.cfg := rfl
@[simp] theorem setPhase_phase (p : Phase) (s : State) : (setPhase p s).phase = p := rfl
@[simp] theorem setPhase_buf (p : Phase) (s : State) : (setPhase p s).buf = s.buf := rfl
@[simp] theorem setPhase_cursor (p : Phase) (s : State) : (setPhase p s).cursor = s.cursor := rfl
@[simp] theorem setPhase_lenHi (p : Phase) (s : State) : (setPhase p s).lenHi = s.lenHi := rfl
@[simp] theorem setPhase_declLen (p : Phase) (s : State) : (setPhase p s).declLen = s.declLen := rfl
@[simp] theorem setPhase_remaining (p : Phase) (s : State) : (setPhase p s).remaining = s.remaining := rfl
@[simp] theorem setPhase_csum (p : Phase) (s : State) : (setPhase p s).csum = s.csum := rfl
@[simp] theorem setPhase_wdArmed (p : Phase) (s : State) : (setPhase p s).wdArmed = s.wdArmed := rfl
@[simp] theorem setPhase_wdCount (p : Phase) (s : State) : (setPhase p s).wdCount = s.wdCount := rfl
@[simp] theorem setPhase_evtReady (p : Phase) (s : State) : (setPhase p s).evtReady = s.evtReady := rfl
@[simp] theorem setPhase_outcome (p : Phase) (s : State) : (setPhase p s).outcome = s.outcome := rfl
@[simp] theorem setPhase_errRpt (p : Phase) (s : State) : (setPhase p s).errRpt = s.errRpt := rfl
@[simp] theorem setPhase_wdExpire (p : Phase) (s : State) : (setPhase p s).wdExpire = s.wdExpire := rfl
@[simp] theorem setPhase_arm (p : Phase) (s : State) : (setPhase p s).arm = s.arm := rfl
@[simp] theorem setPhase_payload (p : Phase) (s : State) : (setPhase p s).payload = s.payload := rfl
@[simp] theorem setPhase_queue (p : Phase) (s : State) : (setPhase p s).queue = s.queue := rfl
@[simp] theorem setPhase_schedule (p : Phase) (s : State) : (setPhase p s).schedule = s.schedule := rfl
@[simp] theorem setPhase_freeCount (p : Phase) (s : State) : (setPhase p s).freeCount = s.freeCount := rfl

@[simp] theorem emit_cfg (o : FrameOutcome) (s : State) : (emit o s).cfg = s.cfg := rfl
@[simp] theorem emit_phase (o : FrameOutcome) (s : State) : (emit o s).phase = s.phase := rfl
@[simp] theorem emit_buf (o : FrameOutcome) (s : State) : (emit o s).buf = s.buf := rfl
@[simp] theorem emit_cursor (o : FrameOutcome) (s : State) : (emit o s).cursor = s.cursor := rfl
@[simp] theorem emit_lenHi (o : FrameOutcome) (s : State) : (emit o s).lenHi = s.lenHi := rfl
@[simp] theorem emit_declLen (o : FrameOutcome) (s : State) : (emit o s).declLen = s.declLen := rfl
@[simp] theorem emit_remaining (o : FrameOutcome) (s : State) : (emit o s).remaining = s.remaining := rfl
@[simp] theorem emit_csum (o : FrameOutcome) (s : State) : (emit o s).csum = s.csum := rfl
@[simp] theorem emit_wdArmed (o : FrameOutcome) (s : State) : (emit o s).wdArmed = s.wdArmed := rfl
@[simp] theorem emit_wdCount (o : FrameOutcome) (s : State) : (emit o s).wdCount = s.wdCount := rfl
@[simp] theorem emit_evtReady (o : FrameOutcome) (s : State) : (emit o s).evtReady = s.evtReady := rfl
@[simp] theorem emit_outcome (o : FrameOutcome) (s : State) : (emit o s).outcome = some o := rfl
@[simp] theorem emit_errRpt (o : FrameOutcome) (s : State) : (emit o s).errRpt = s.errRpt := rfl
@[simp] theorem emit_wdExpire (o : FrameOutcome) (s : State) : (emit o s).wdExpire = s.wdExpire := rfl
@[simp] theorem emit_arm (o : FrameOutcome) (s : State) : (emit o s).arm = s.arm := rfl
@[simp] theorem emit_payload (o : FrameOutcome) (s : State) : (emit o s).payload = windowAfter o s.payload := rfl
@[simp] theorem emit_queue (o : FrameOutcome) (s : State) : (emit o s).queue = s.queue := rfl
@[simp] theorem emit_schedule (o : FrameOutcome) (s : State) : (emit o s).schedule = s.schedule := rfl
@[simp] theorem emit_freeCount (o : FrameOutcome) (s : State) : (emit o s).freeCount = s.freeCount := rfl

@[simp] theorem report_cfg (f : LineFlags) (s : State) : (report f s).cfg = s.cfg := rfl
@[simp] theorem report_phase (f : LineFlags) (s : State) : (report f s).phase = s.phase := rfl
@[simp] theorem report_buf (f : LineFlags) (s : State) : (report f s).buf = s.buf := rfl
@[simp] theorem report_cursor (f : LineFlags) (s : State) : (report f s).cursor = s.cursor := rfl
@[simp] theorem report_lenHi (f : LineFlags) (s : State) : (report f s).lenHi = s.lenHi := rfl
@[simp] theorem report_declLen (f : LineFlags) (s : State) : (report f s).declLen = s.declLen := rfl
@[simp] theorem report_remaining (f : LineFlags) (s : State) : (report f s).remaining = s.remaining := rfl
@[simp] theorem report_csum (f : LineFlags) (s : State) : (report f s).csum = s.csum := rfl
@[simp] theorem report_wdArmed (f : LineFlags) (s : State) : (report f s).wdArmed = s.wdArmed := rfl
@[simp] theorem report_wdCount (f : LineFlags) (s : State) : (report f s).wdCount = s.wdCount := rfl
@[simp] theorem report_evtReady (f : LineFlags) (s : State) : (report f s).evtReady = s.evtReady := rfl
@[simp] theorem report_outcome (f : LineFlags) (s : State) : (report f s).outcome = s.outcome := rfl
@[simp] theorem report_errRpt (f : LineFlags) (s : State) : (report f s).errRpt = joinFlags s.errRpt f := rfl
@[simp] theorem report_wdExpire (f : LineFlags) (s : State) : (report f s).wdExpire = s.wdExpire := rfl
@[simp] theorem report_arm (f : LineFlags) (s : State) : (report f s).arm = s.arm := rfl
@[simp] theorem report_payload (f : LineFlags) (s : State) : (report f s).payload = s.payload := rfl
@[simp] theorem report_queue (f : LineFlags) (s : State) : (report f s).queue = s.queue := rfl
@[simp] theorem report_schedule (f : LineFlags) (s : State) : (report f s).schedule = s.schedule := rfl
@[simp] theorem report_freeCount (f : LineFlags) (s : State) : (report f s).freeCount = s.freeCount := rfl

@[simp] theorem resync_cfg (o : FrameOutcome) (s : State) : (resync o s).cfg = s.cfg := rfl
@[simp] theorem resync_phase (o : FrameOutcome) (s : State) : (resync o s).phase = .idle := rfl
@[simp] theorem resync_buf (o : FrameOutcome) (s : State) : (resync o s).buf = [] := rfl
@[simp] theorem resync_cursor (o : FrameOutcome) (s : State) : (resync o s).cursor = 0 := rfl
@[simp] theorem resync_lenHi (o : FrameOutcome) (s : State) : (resync o s).lenHi = none := rfl
@[simp] theorem resync_declLen (o : FrameOutcome) (s : State) : (resync o s).declLen = none := rfl
@[simp] theorem resync_remaining (o : FrameOutcome) (s : State) : (resync o s).remaining = none := rfl
@[simp] theorem resync_csum (o : FrameOutcome) (s : State) : (resync o s).csum = none := rfl
@[simp] theorem resync_wdArmed (o : FrameOutcome) (s : State) : (resync o s).wdArmed = s.wdArmed := rfl
@[simp] theorem resync_wdCount (o : FrameOutcome) (s : State) : (resync o s).wdCount = s.wdCount := rfl
@[simp] theorem resync_evtReady (o : FrameOutcome) (s : State) : (resync o s).evtReady = s.evtReady := rfl
@[simp] theorem resync_outcome (o : FrameOutcome) (s : State) : (resync o s).outcome = some o := rfl
@[simp] theorem resync_errRpt (o : FrameOutcome) (s : State) : (resync o s).errRpt = s.errRpt := rfl
@[simp] theorem resync_wdExpire (o : FrameOutcome) (s : State) : (resync o s).wdExpire = s.wdExpire := rfl
@[simp] theorem resync_arm (o : FrameOutcome) (s : State) : (resync o s).arm = s.arm := rfl
@[simp] theorem resync_payload (o : FrameOutcome) (s : State) : (resync o s).payload = windowAfter o s.payload := rfl
@[simp] theorem resync_queue (o : FrameOutcome) (s : State) : (resync o s).queue = s.queue := rfl
@[simp] theorem resync_schedule (o : FrameOutcome) (s : State) : (resync o s).schedule = s.schedule := rfl
@[simp] theorem resync_freeCount (o : FrameOutcome) (s : State) : (resync o s).freeCount = s.freeCount := rfl

@[simp] theorem expire_cfg (s : State) : (expire s).cfg = s.cfg := rfl
@[simp] theorem expire_phase (s : State) : (expire s).phase = s.phase := rfl
@[simp] theorem expire_buf (s : State) : (expire s).buf = s.buf := rfl
@[simp] theorem expire_cursor (s : State) : (expire s).cursor = s.cursor := rfl
@[simp] theorem expire_lenHi (s : State) : (expire s).lenHi = s.lenHi := rfl
@[simp] theorem expire_declLen (s : State) : (expire s).declLen = s.declLen := rfl
@[simp] theorem expire_remaining (s : State) : (expire s).remaining = s.remaining := rfl
@[simp] theorem expire_csum (s : State) : (expire s).csum = s.csum := rfl
@[simp] theorem expire_wdArmed (s : State) : (expire s).wdArmed = false := rfl
@[simp] theorem expire_wdCount (s : State) : (expire s).wdCount = none := rfl
@[simp] theorem expire_evtReady (s : State) : (expire s).evtReady = s.evtReady := rfl
@[simp] theorem expire_outcome (s : State) : (expire s).outcome = s.outcome := rfl
@[simp] theorem expire_errRpt (s : State) : (expire s).errRpt = s.errRpt := rfl
@[simp] theorem expire_wdExpire (s : State) : (expire s).wdExpire = true := rfl
@[simp] theorem expire_arm (s : State) : (expire s).arm = s.arm := rfl
@[simp] theorem expire_payload (s : State) : (expire s).payload = s.payload := rfl
@[simp] theorem expire_queue (s : State) : (expire s).queue = s.queue ++ [timeoutWord] := rfl
@[simp] theorem expire_schedule (s : State) : (expire s).schedule = s.schedule := rfl
@[simp] theorem expire_freeCount (s : State) : (expire s).freeCount = s.freeCount := rfl

@[simp] theorem beginStep_cfg (rest : List Move) (s : State) : (beginStep rest s).cfg = s.cfg := rfl
@[simp] theorem beginStep_phase (rest : List Move) (s : State) : (beginStep rest s).phase = s.phase := rfl
@[simp] theorem beginStep_buf (rest : List Move) (s : State) : (beginStep rest s).buf = s.buf := rfl
@[simp] theorem beginStep_cursor (rest : List Move) (s : State) : (beginStep rest s).cursor = s.cursor := rfl
@[simp] theorem beginStep_lenHi (rest : List Move) (s : State) : (beginStep rest s).lenHi = s.lenHi := rfl
@[simp] theorem beginStep_declLen (rest : List Move) (s : State) : (beginStep rest s).declLen = s.declLen := rfl
@[simp] theorem beginStep_remaining (rest : List Move) (s : State) : (beginStep rest s).remaining = s.remaining := rfl
@[simp] theorem beginStep_csum (rest : List Move) (s : State) : (beginStep rest s).csum = s.csum := rfl
@[simp] theorem beginStep_wdArmed (rest : List Move) (s : State) : (beginStep rest s).wdArmed = s.wdArmed := rfl
@[simp] theorem beginStep_wdCount (rest : List Move) (s : State) : (beginStep rest s).wdCount = s.wdCount := rfl
@[simp] theorem beginStep_evtReady (rest : List Move) (s : State) : (beginStep rest s).evtReady = s.evtReady := rfl
@[simp] theorem beginStep_outcome (rest : List Move) (s : State) : (beginStep rest s).outcome = s.outcome := rfl
@[simp] theorem beginStep_errRpt (rest : List Move) (s : State) : (beginStep rest s).errRpt = s.errRpt := rfl
@[simp] theorem beginStep_wdExpire (rest : List Move) (s : State) : (beginStep rest s).wdExpire = s.wdExpire := rfl
@[simp] theorem beginStep_arm (rest : List Move) (s : State) : (beginStep rest s).arm = s.arm := rfl
@[simp] theorem beginStep_payload (rest : List Move) (s : State) : (beginStep rest s).payload = s.payload := rfl
@[simp] theorem beginStep_queue (rest : List Move) (s : State) : (beginStep rest s).queue = s.queue := rfl
@[simp] theorem beginStep_schedule (rest : List Move) (s : State) : (beginStep rest s).schedule = rest := rfl
@[simp] theorem beginStep_freeCount (rest : List Move) (s : State) : (beginStep rest s).freeCount = s.freeCount + 1 := rfl

@[simp] theorem loadEvent_cfg (w : EventWord) (s : State) : (loadEvent w s).cfg = s.cfg := rfl
@[simp] theorem loadEvent_phase (w : EventWord) (s : State) : (loadEvent w s).phase = s.phase := rfl
@[simp] theorem loadEvent_buf (w : EventWord) (s : State) : (loadEvent w s).buf = s.buf := rfl
@[simp] theorem loadEvent_cursor (w : EventWord) (s : State) : (loadEvent w s).cursor = s.cursor := rfl
@[simp] theorem loadEvent_lenHi (w : EventWord) (s : State) : (loadEvent w s).lenHi = s.lenHi := rfl
@[simp] theorem loadEvent_declLen (w : EventWord) (s : State) : (loadEvent w s).declLen = s.declLen := rfl
@[simp] theorem loadEvent_remaining (w : EventWord) (s : State) : (loadEvent w s).remaining = s.remaining := rfl
@[simp] theorem loadEvent_csum (w : EventWord) (s : State) : (loadEvent w s).csum = s.csum := rfl
@[simp] theorem loadEvent_wdArmed (w : EventWord) (s : State) : (loadEvent w s).wdArmed = s.wdArmed := rfl
@[simp] theorem loadEvent_wdCount (w : EventWord) (s : State) : (loadEvent w s).wdCount = s.wdCount := rfl
@[simp] theorem loadEvent_evtReady (w : EventWord) (s : State) : (loadEvent w s).evtReady = s.evtReady := rfl
@[simp] theorem loadEvent_outcome (w : EventWord) (s : State) : (loadEvent w s).outcome = s.outcome := rfl
@[simp] theorem loadEvent_errRpt (w : EventWord) (s : State) : (loadEvent w s).errRpt = s.errRpt := rfl
@[simp] theorem loadEvent_wdExpire (w : EventWord) (s : State) : (loadEvent w s).wdExpire = s.wdExpire := rfl
@[simp] theorem loadEvent_arm (w : EventWord) (s : State) : (loadEvent w s).arm = s.arm := rfl
@[simp] theorem loadEvent_payload (w : EventWord) (s : State) : (loadEvent w s).payload = s.payload := rfl
@[simp] theorem loadEvent_queue (w : EventWord) (s : State) : (loadEvent w s).queue = w :: s.queue := rfl
@[simp] theorem loadEvent_schedule (w : EventWord) (s : State) : (loadEvent w s).schedule = .clock false true false :: s.schedule := rfl
@[simp] theorem loadEvent_freeCount (w : EventWord) (s : State) : (loadEvent w s).freeCount = s.freeCount := rfl

@[simp] theorem withEmptyFrame_cfg (s : State) : (withEmptyFrame s).cfg = s.cfg := rfl
@[simp] theorem withEmptyFrame_phase (s : State) : (withEmptyFrame s).phase = .idle := rfl
@[simp] theorem withEmptyFrame_buf (s : State) : (withEmptyFrame s).buf = [] := rfl
@[simp] theorem withEmptyFrame_cursor (s : State) : (withEmptyFrame s).cursor = 0 := rfl
@[simp] theorem withEmptyFrame_lenHi (s : State) : (withEmptyFrame s).lenHi = none := rfl
@[simp] theorem withEmptyFrame_declLen (s : State) : (withEmptyFrame s).declLen = none := rfl
@[simp] theorem withEmptyFrame_remaining (s : State) : (withEmptyFrame s).remaining = none := rfl
@[simp] theorem withEmptyFrame_csum (s : State) : (withEmptyFrame s).csum = none := rfl
@[simp] theorem withEmptyFrame_wdArmed (s : State) : (withEmptyFrame s).wdArmed = s.wdArmed := rfl
@[simp] theorem withEmptyFrame_wdCount (s : State) : (withEmptyFrame s).wdCount = s.wdCount := rfl
@[simp] theorem withEmptyFrame_evtReady (s : State) : (withEmptyFrame s).evtReady = s.evtReady := rfl
@[simp] theorem withEmptyFrame_outcome (s : State) : (withEmptyFrame s).outcome = s.outcome := rfl
@[simp] theorem withEmptyFrame_errRpt (s : State) : (withEmptyFrame s).errRpt = s.errRpt := rfl
@[simp] theorem withEmptyFrame_wdExpire (s : State) : (withEmptyFrame s).wdExpire = s.wdExpire := rfl
@[simp] theorem withEmptyFrame_arm (s : State) : (withEmptyFrame s).arm = s.arm := rfl
@[simp] theorem withEmptyFrame_payload (s : State) : (withEmptyFrame s).payload = s.payload := rfl
@[simp] theorem withEmptyFrame_queue (s : State) : (withEmptyFrame s).queue = s.queue := rfl
@[simp] theorem withEmptyFrame_schedule (s : State) : (withEmptyFrame s).schedule = s.schedule := rfl
@[simp] theorem withEmptyFrame_freeCount (s : State) : (withEmptyFrame s).freeCount = s.freeCount := rfl

@[simp] theorem withArmedWatchdog_cfg (s : State) : (withArmedWatchdog s).cfg = s.cfg := rfl
@[simp] theorem withArmedWatchdog_phase (s : State) : (withArmedWatchdog s).phase = s.phase := rfl
@[simp] theorem withArmedWatchdog_buf (s : State) : (withArmedWatchdog s).buf = s.buf := rfl
@[simp] theorem withArmedWatchdog_cursor (s : State) : (withArmedWatchdog s).cursor = s.cursor := rfl
@[simp] theorem withArmedWatchdog_lenHi (s : State) : (withArmedWatchdog s).lenHi = s.lenHi := rfl
@[simp] theorem withArmedWatchdog_declLen (s : State) : (withArmedWatchdog s).declLen = s.declLen := rfl
@[simp] theorem withArmedWatchdog_remaining (s : State) : (withArmedWatchdog s).remaining = s.remaining := rfl
@[simp] theorem withArmedWatchdog_csum (s : State) : (withArmedWatchdog s).csum = s.csum := rfl
@[simp] theorem withArmedWatchdog_wdArmed (s : State) : (withArmedWatchdog s).wdArmed = true := rfl
@[simp] theorem withArmedWatchdog_wdCount (s : State) : (withArmedWatchdog s).wdCount = some s.cfg.timeoutTicks := rfl
@[simp] theorem withArmedWatchdog_evtReady (s : State) : (withArmedWatchdog s).evtReady = s.evtReady := rfl
@[simp] theorem withArmedWatchdog_outcome (s : State) : (withArmedWatchdog s).outcome = s.outcome := rfl
@[simp] theorem withArmedWatchdog_errRpt (s : State) : (withArmedWatchdog s).errRpt = s.errRpt := rfl
@[simp] theorem withArmedWatchdog_wdExpire (s : State) : (withArmedWatchdog s).wdExpire = s.wdExpire := rfl
@[simp] theorem withArmedWatchdog_arm (s : State) : (withArmedWatchdog s).arm = s.arm := rfl
@[simp] theorem withArmedWatchdog_payload (s : State) : (withArmedWatchdog s).payload = s.payload := rfl
@[simp] theorem withArmedWatchdog_queue (s : State) : (withArmedWatchdog s).queue = s.queue := rfl
@[simp] theorem withArmedWatchdog_schedule (s : State) : (withArmedWatchdog s).schedule = s.schedule := rfl
@[simp] theorem withArmedWatchdog_freeCount (s : State) : (withArmedWatchdog s).freeCount = s.freeCount := rfl

@[simp] theorem withEventPorts_cfg (o : FrameOutcome) (f : LineFlags) (a : Bool) (w : Option (List Byte)) (s : State) : (withEventPorts o f a w s).cfg = s.cfg := rfl
@[simp] theorem withEventPorts_phase (o : FrameOutcome) (f : LineFlags) (a : Bool) (w : Option (List Byte)) (s : State) : (withEventPorts o f a w s).phase = s.phase := rfl
@[simp] theorem withEventPorts_buf (o : FrameOutcome) (f : LineFlags) (a : Bool) (w : Option (List Byte)) (s : State) : (withEventPorts o f a w s).buf = s.buf := rfl
@[simp] theorem withEventPorts_cursor (o : FrameOutcome) (f : LineFlags) (a : Bool) (w : Option (List Byte)) (s : State) : (withEventPorts o f a w s).cursor = s.cursor := rfl
@[simp] theorem withEventPorts_lenHi (o : FrameOutcome) (f : LineFlags) (a : Bool) (w : Option (List Byte)) (s : State) : (withEventPorts o f a w s).lenHi = s.lenHi := rfl
@[simp] theorem withEventPorts_declLen (o : FrameOutcome) (f : LineFlags) (a : Bool) (w : Option (List Byte)) (s : State) : (withEventPorts o f a w s).declLen = s.declLen := rfl
@[simp] theorem withEventPorts_remaining (o : FrameOutcome) (f : LineFlags) (a : Bool) (w : Option (List Byte)) (s : State) : (withEventPorts o f a w s).remaining = s.remaining := rfl
@[simp] theorem withEventPorts_csum (o : FrameOutcome) (f : LineFlags) (a : Bool) (w : Option (List Byte)) (s : State) : (withEventPorts o f a w s).csum = s.csum := rfl
@[simp] theorem withEventPorts_wdArmed (o : FrameOutcome) (f : LineFlags) (a : Bool) (w : Option (List Byte)) (s : State) : (withEventPorts o f a w s).wdArmed = s.wdArmed := rfl
@[simp] theorem withEventPorts_wdCount (o : FrameOutcome) (f : LineFlags) (a : Bool) (w : Option (List Byte)) (s : State) : (withEventPorts o f a w s).wdCount = s.wdCount := rfl
@[simp] theorem withEventPorts_evtReady (o : FrameOutcome) (f : LineFlags) (a : Bool) (w : Option (List Byte)) (s : State) : (withEventPorts o f a w s).evtReady = true := rfl
@[simp] theorem withEventPorts_outcome (o : FrameOutcome) (f : LineFlags) (a : Bool) (w : Option (List Byte)) (s : State) : (withEventPorts o f a w s).outcome = some o := rfl
@[simp] theorem withEventPorts_errRpt (o : FrameOutcome) (f : LineFlags) (a : Bool) (w : Option (List Byte)) (s : State) : (withEventPorts o f a w s).errRpt = f := rfl
@[simp] theorem withEventPorts_wdExpire (o : FrameOutcome) (f : LineFlags) (a : Bool) (w : Option (List Byte)) (s : State) : (withEventPorts o f a w s).wdExpire = false := rfl
@[simp] theorem withEventPorts_arm (o : FrameOutcome) (f : LineFlags) (a : Bool) (w : Option (List Byte)) (s : State) : (withEventPorts o f a w s).arm = a := rfl
@[simp] theorem withEventPorts_payload (o : FrameOutcome) (f : LineFlags) (a : Bool) (w : Option (List Byte)) (s : State) : (withEventPorts o f a w s).payload = w := rfl
@[simp] theorem withEventPorts_queue (o : FrameOutcome) (f : LineFlags) (a : Bool) (w : Option (List Byte)) (s : State) : (withEventPorts o f a w s).queue = s.queue := rfl
@[simp] theorem withEventPorts_schedule (o : FrameOutcome) (f : LineFlags) (a : Bool) (w : Option (List Byte)) (s : State) : (withEventPorts o f a w s).schedule = s.schedule := rfl
@[simp] theorem withEventPorts_freeCount (o : FrameOutcome) (f : LineFlags) (a : Bool) (w : Option (List Byte)) (s : State) : (withEventPorts o f a w s).freeCount = s.freeCount := rfl

@[simp] theorem withQuietPorts_cfg (e : Bool) (s : State) : (withQuietPorts e s).cfg = s.cfg := rfl
@[simp] theorem withQuietPorts_phase (e : Bool) (s : State) : (withQuietPorts e s).phase = s.phase := rfl
@[simp] theorem withQuietPorts_buf (e : Bool) (s : State) : (withQuietPorts e s).buf = s.buf := rfl
@[simp] theorem withQuietPorts_cursor (e : Bool) (s : State) : (withQuietPorts e s).cursor = s.cursor := rfl
@[simp] theorem withQuietPorts_lenHi (e : Bool) (s : State) : (withQuietPorts e s).lenHi = s.lenHi := rfl
@[simp] theorem withQuietPorts_declLen (e : Bool) (s : State) : (withQuietPorts e s).declLen = s.declLen := rfl
@[simp] theorem withQuietPorts_remaining (e : Bool) (s : State) : (withQuietPorts e s).remaining = s.remaining := rfl
@[simp] theorem withQuietPorts_csum (e : Bool) (s : State) : (withQuietPorts e s).csum = s.csum := rfl
@[simp] theorem withQuietPorts_wdArmed (e : Bool) (s : State) : (withQuietPorts e s).wdArmed = s.wdArmed := rfl
@[simp] theorem withQuietPorts_wdCount (e : Bool) (s : State) : (withQuietPorts e s).wdCount = s.wdCount := rfl
@[simp] theorem withQuietPorts_evtReady (e : Bool) (s : State) : (withQuietPorts e s).evtReady = true := rfl
@[simp] theorem withQuietPorts_outcome (e : Bool) (s : State) : (withQuietPorts e s).outcome = none := rfl
@[simp] theorem withQuietPorts_errRpt (e : Bool) (s : State) : (withQuietPorts e s).errRpt = noFlags := rfl
@[simp] theorem withQuietPorts_wdExpire (e : Bool) (s : State) : (withQuietPorts e s).wdExpire = e := rfl
@[simp] theorem withQuietPorts_arm (e : Bool) (s : State) : (withQuietPorts e s).arm = false := rfl
@[simp] theorem withQuietPorts_payload (e : Bool) (s : State) : (withQuietPorts e s).payload = s.payload := rfl
@[simp] theorem withQuietPorts_queue (e : Bool) (s : State) : (withQuietPorts e s).queue = s.queue := rfl
@[simp] theorem withQuietPorts_schedule (e : Bool) (s : State) : (withQuietPorts e s).schedule = s.schedule := rfl
@[simp] theorem withQuietPorts_freeCount (e : Bool) (s : State) : (withQuietPorts e s).freeCount = s.freeCount := rfl

@[simp] theorem State.resetWith_cfg (p : Params) : (State.resetWith p).cfg = p := rfl
@[simp] theorem State.resetWith_phase (p : Params) : (State.resetWith p).phase = .idle := rfl
@[simp] theorem State.resetWith_buf (p : Params) : (State.resetWith p).buf = [] := rfl
@[simp] theorem State.resetWith_cursor (p : Params) : (State.resetWith p).cursor = 0 := rfl
@[simp] theorem State.resetWith_lenHi (p : Params) : (State.resetWith p).lenHi = none := rfl
@[simp] theorem State.resetWith_declLen (p : Params) : (State.resetWith p).declLen = none := rfl
@[simp] theorem State.resetWith_remaining (p : Params) : (State.resetWith p).remaining = none := rfl
@[simp] theorem State.resetWith_csum (p : Params) : (State.resetWith p).csum = none := rfl
@[simp] theorem State.resetWith_wdArmed (p : Params) : (State.resetWith p).wdArmed = false := rfl
@[simp] theorem State.resetWith_wdCount (p : Params) : (State.resetWith p).wdCount = none := rfl
@[simp] theorem State.resetWith_evtReady (p : Params) : (State.resetWith p).evtReady = false := rfl
@[simp] theorem State.resetWith_outcome (p : Params) : (State.resetWith p).outcome = none := rfl
@[simp] theorem State.resetWith_errRpt (p : Params) : (State.resetWith p).errRpt = noFlags := rfl
@[simp] theorem State.resetWith_wdExpire (p : Params) : (State.resetWith p).wdExpire = false := rfl
@[simp] theorem State.resetWith_arm (p : Params) : (State.resetWith p).arm = false := rfl
@[simp] theorem State.resetWith_payload (p : Params) : (State.resetWith p).payload = none := rfl
@[simp] theorem State.resetWith_queue (p : Params) : (State.resetWith p).queue = [] := rfl
@[simp] theorem State.resetWith_schedule (p : Params) : (State.resetWith p).schedule = [] := rfl
@[simp] theorem State.resetWith_freeCount (p : Params) : (State.resetWith p).freeCount = 0 := rfl

end Sys2Proof.Machine
end

