-- ==== Sys2Proof/Laws/Ops.lean ====
section
/-! SUPPORT. For each shared operation, once, everything it can do; for the step, everything a move can do; and the rows
of R30 as equivalences. -/

namespace Sys2Proof.Machine

section Sequencing

variable {α β : Type}

@[simp] theorem andThen_next (a : α) (k : α → Host.Outcome β Fault Refusal) : andThen (.next a) k = k a := rfl

@[simp] theorem andThen_fault (f : Fault) (k : α → Host.Outcome β Fault Refusal) :
    andThen (.fault f) k = .fault f := rfl

@[simp] theorem andThen_refused (r : Refusal) (k : α → Host.Outcome β Fault Refusal) :
    andThen (.refused r) k = .refused r := rfl

/-- Two statements end in a next state exactly where the first does and the second does from there. -/
theorem andThen_eq_next {o : Host.Outcome α Fault Refusal} {k : α → Host.Outcome β Fault Refusal} {b : β} :
    andThen o k = .next b ↔ ∃ a, o = .next a ∧ k a = .next b := by
  cases o <;> simp

@[simp] theorem readField_some (f : Field) (a : α) : readField f (some a) = .next a := rfl

@[simp] theorem readField_none (f : Field) : readField f (none : Option α) = .fault (.noValue f) := rfl

theorem readField_eq_next {f : Field} {v : Option α} {a : α} : readField f v = .next a ↔ v = some a := by
  cases v <;> simp [readField]

end Sequencing

/-- Everything BufAppend can do (R52). -/
theorem bufAppend_eq_next {b : Byte} {s t : State} :
    bufAppend b s = .next t ↔
      s.cursor < s.cfg.bufCap ∧ t = { s with buf := s.buf.write s.cursor b, cursor := s.cursor + 1 } := by
  simp only [bufAppend]
  split
  · next h => simp; omega
  · next h => simp only [Host.Outcome.next.injEq, eq_comm, Nat.lt_of_not_le h, true_and]

theorem bufAppend_of_lt {b : Byte} {s : State} (h : s.cursor < s.cfg.bufCap) :
    bufAppend b s = .next { s with buf := s.buf.write s.cursor b, cursor := s.cursor + 1 } :=
  bufAppend_eq_next.2 ⟨h, rfl⟩

/-- BufAppend where the buffer is the bytes `bs` from index 0 on, the cursor just after them (R54). -/
theorem bufAppend_cells {b : Byte} {s : State} {bs : List Byte} (hbuf : s.buf = cellsFrom 0 bs)
    (hcur : s.cursor = bs.length) (hcap : bs.length < s.cfg.bufCap) :
    bufAppend b s = .next { s with buf := cellsFrom 0 (bs ++ [b]), cursor := bs.length + 1 } := by
  rw [bufAppend_of_lt (hcur ▸ hcap), hbuf, hcur]
  have := Memory.write_cellsFrom 0 bs b
  rw [Nat.zero_add] at this
  rw [this]

/-- The payload read of R111 gives the bytes that stand there. -/
theorem bufReadRange_cells {s : State} {bs : List Byte} (hbuf : s.buf = cellsFrom 0 bs)
    (hcap : bs.length ≤ s.cfg.bufCap) (i n : Nat) (h : i + n ≤ bs.length) :
    bufReadRange s i n = .next ((bs.drop i).take n) := by
  induction n generalizing i with
  | zero => simp [bufReadRange]
  | succ n ih =>
    have hi : i < bs.length := by omega
    have hr : s.buf.read i = some bs[i] := by
      have := Memory.read_cellsFrom 0 i bs
      rw [Nat.zero_add] at this
      rw [hbuf, this, List.getElem?_eq_getElem hi]
    simp only [bufReadRange, bufRead, if_pos (Nat.lt_of_lt_of_le hi hcap), hr, readField_some, andThen_next,
      ih (i + 1) (by omega)]
    rw [List.drop_eq_getElem_cons hi, List.take_succ_cons]

/-- Everything a tick at the watchdog can do (R153 to R155). -/
theorem tickWatchdog_eq_next {s t : State} :
    tickWatchdog s = .next t ↔
      (s.wdArmed = false ∧ t = s)
      ∨ (∃ n, s.wdArmed = true ∧ s.wdCount = some n ∧ 1 < n ∧ t = { s with wdCount := some (n - 1) })
      ∨ (s.wdArmed = true ∧ s.wdCount = some 1 ∧ t = expire s) := by
  unfold tickWatchdog
  cases ha : s.wdArmed
  · simp [eq_comm]
  · cases hc : s.wdCount with
    | none => simp
    | some n =>
      simp only [if_true, readField_some, andThen_next]
      split
      · next h => simp [h, eq_comm]; omega
      · split
        · next h => subst h; simp [eq_comm]
        · next h1 h2 => simp; omega

/-- In IDLE there is no frame to abandon (R131, R139). -/
theorem abandonFrame_idle {s : State} (h : s.phase = .idle) (r : DiscardReason) :
    abandonFrame r s = .next (emit .continue_ s) := by
  simp [abandonFrame, h]

/-- Outside IDLE the frame is abandoned (R133, R140). -/
theorem abandonFrame_open {s : State} (h : s.phase ≠ .idle) (r : DiscardReason) :
    abandonFrame r s = .next (resync (.frameDiscarded r) s) := by
  cases hp : s.phase <;> simp_all [abandonFrame]

/-- Everything a step can do: the empty schedule, a post, a reset clock, a clock that consumes an event, and a clock
that does not. -/
theorem step_eq_next {s t : State} :
    step s = .next t ↔
      (s.schedule = [] ∧ t = openClock (beginStep [] s))
      ∨ (∃ v f rest, s.schedule = .post v f :: rest ∧ sourcePost v f (beginStep rest s) = .next t)
      ∨ (∃ o k rest, s.schedule = .clock true o k :: rest ∧ execReset (beginStep rest s) = .next t)
      ∨ (∃ w q k rest, s.schedule = .clock false true k :: rest ∧ s.queue = w :: q
          ∧ consume w k { beginStep rest s with queue := q } = .next t)
      ∨ (∃ o k rest, s.schedule = .clock false o k :: rest ∧ (o = true → s.queue = [])
          ∧ clockNoEvent k (beginStep rest s) = .next t) := by
  unfold step systemStep
  cases hs : s.schedule with
  | nil => simp [@eq_comm _ t]
  | cons m rest =>
    cases m with
    | post v f => simp [takeMove]
    | clock r o k =>
      cases r
      · cases o
        · cases k <;> simp [takeMove, clockStep]
        · cases hq : s.queue <;> cases k <;> simp [takeMove, clockStep, hq]
      · simp [takeMove, clockStep, exec]

/-- A shorter run of the same inputs has no further Arm() either. -/
theorem noFurtherArm_take {is : List Instr} {s : State} (h : NoFurtherArm is s) (n : Nat) :
    NoFurtherArm (is.take n) s := by
  induction is generalizing s n with
  | nil => simpa using h
  | cons i is ih =>
    cases n with
    | zero => trivial
    | succ n => exact ⟨h.1, h.2.1, fun t ht => ih (h.2.2 t ht) n⟩

section Rows

variable {s : State}

/-- The IDLE row of R30. -/
theorem frameInv_idle (h : s.phase = .idle) :
    FrameInv s ↔ s.buf = [] ∧ s.cursor = 0 ∧ s.lenHi = none ∧ s.declLen = none ∧ s.remaining = none ∧ s.csum = none := by
  simp [FrameInv, h]

/-- The LEN_HI row of R30. -/
theorem frameInv_lenHi (h : s.phase = .lenHi) :
    FrameInv s ↔ s.buf = [(0, delim)] ∧ s.cursor = 1 ∧ s.lenHi = none ∧ s.declLen = none ∧ s.remaining = none
      ∧ s.csum = none := by
  simp [FrameInv, h]

/-- The LEN_LO row of R30. -/
theorem frameInv_lenLo (h : s.phase = .lenLo) :
    FrameInv s ↔ ∃ hi, s.lenHi = some hi ∧ s.buf = [(0, delim), (1, hi)] ∧ s.cursor = 2 ∧ s.declLen = none
      ∧ s.remaining = none ∧ s.csum = none := by
  cases hh : s.lenHi <;> simp [FrameInv, h, hh]

/-- The BODY row of R30. -/
theorem frameInv_body (h : s.phase = .body) :
    FrameInv s ↔ ∃ hi len rem c, s.lenHi = some hi ∧ s.declLen = some len ∧ s.remaining = some rem ∧ s.csum = some c
      ∧ bodyRow s hi len rem c := by
  cases h1 : s.lenHi <;> cases h2 : s.declLen <;> cases h3 : s.remaining <;> cases h4 : s.csum <;>
    simp [FrameInv, h, h1, h2, h3, h4]

/-- The payload bytes so far, where the buffer is three bytes and then `bs`. -/
theorem payloadSoFar_of_buf {a b c : Byte} {bs : List Byte} (h : s.buf = cellsFrom 0 ([a, b, c] ++ bs)) :
    payloadSoFar s = bs := by
  simp only [payloadSoFar, h, map_snd_cellsFrom]
  rfl

/-- The BODY row of R30 from the payload bytes so far, named. -/
theorem frameInv_body_of {hi c : Byte} {len rem : BitVec 16} {ps : List Byte} (h : s.phase = .body)
    (hHi : s.lenHi = some hi) (hLen : s.declLen = some len) (hRem : s.remaining = some rem) (hSum : s.csum = some c)
    (hBuf : s.buf = cellsFrom 0 ([delim, hi, len.extractLsb' 0 8] ++ ps)) (hHigh : len.extractLsb' 8 8 = hi)
    (hCursor : s.cursor = 3 + ps.length) (hCount : ps.length + rem.toNat = len.toNat) (hByteSum : c = byteSum ps)
    (hFits : len.toNat + overhead ≤ s.cfg.bufCap) : FrameInv s := by
  have hp := payloadSoFar_of_buf hBuf
  subst hp
  exact (frameInv_body h).2 ⟨hi, len, rem, c, hHi, hLen, hRem, hSum, hBuf, hHigh, hCursor, hCount, hByteSum, hFits⟩

/-- R30 speaks of the frame fields and BUF_CAP alone. -/
theorem frameInv_congr {t : State} (h : SameFrame s t) (hs : FrameInv s) : FrameInv t := by
  obtain ⟨h1, h2, h3, h4, h5, h6, h7, h8⟩ := h
  simpa [FrameInv, bodyRow, payloadSoFar, h1, h2, h3, h4, h5, h6, h7, h8] using hs

/-- R29 speaks of the watchdog and TIMEOUT_TICKS alone. -/
theorem watchdogInv_congr {t : State} (h1 : s.wdArmed = t.wdArmed) (h2 : s.wdCount = t.wdCount) (h3 : s.cfg = t.cfg)
    (hs : WatchdogInv s) : WatchdogInv t := by
  simpa [WatchdogInv, h1, h2, h3] using hs

/-- R29 as two cases. -/
theorem watchdogInv_iff :
    WatchdogInv s ↔ (s.wdArmed = false ∧ s.wdCount = none)
      ∨ ∃ n, s.wdArmed = true ∧ s.wdCount = some n ∧ 1 ≤ n ∧ n ≤ s.cfg.timeoutTicks := by
  cases h1 : s.wdArmed <;> cases h2 : s.wdCount <;> simp [WatchdogInv, h1, h2]

end Rows

end Sys2Proof.Machine
end

