-- ==== Sys2Proof/Laws/PerInstr.lean ====
section
/-! SUPPORT. Statements made per input: a well-formed input's event word carries the KIND of its form (R74 to R81). -/

namespace Sys2Proof.Laws.WordKind

/-- The KIND and RSV fields of a well-formed input's event word: R78, R79, R80; a reserved word has one of the patterns
of R81; a port input has no event word (R86). -/
def Statement (i : Instr) : Prop :=
  i.wellFormed = true →
    match i with
    | .byte _ => ∃ w, encode i = some w ∧ wordKind w = 0b00#2 ∧ wordRsv w = 0#2 ∧ wordFlags w = 0#4
    | .lerr _ _ => ∃ w, encode i = some w ∧ wordKind w = 0b01#2 ∧ wordRsv w = 0#2 ∧ wordFlags w ≠ 0#4
    | .tout => encode i = some 0x8000
    | .tick => encode i = none
    | .reset => encode i = none
    | .reserved w => encode i = some w ∧ reservedPattern w = true

theorem byte (b : Byte) : Statement (.byte b) := fun _ => ⟨_, rfl, by simp, by simp, by simp⟩

theorem lerr (flags : LineFlags) (d : Byte) : Statement (.lerr flags d) := fun h => by
  refine ⟨_, rfl, by simp, by simp, ?_⟩
  rw [wordFlags_packWord, Ne, bitsOfFlags_eq_zero]
  simpa [Instr.wellFormed] using h

theorem tout : Statement .tout := fun _ => by decide

theorem tick : Statement .tick := fun _ => rfl

theorem reset : Statement .reset := fun _ => rfl

theorem reserved (w : EventWord) : Statement (.reserved w) := fun h => ⟨rfl, h⟩

end Sys2Proof.Laws.WordKind
end

