-- ==== Sys2Proof/Tests/Slice0.lean ====
section
/-! SUPPORT. Small tests, their expected values from spec/95_test_vectors.md (the row's id in the docstring) or worked out
from the rule named; and for each obligation with hypotheses a state and operands that meet them. -/

namespace Sys2Proof.Tests

open Sys2Proof Sys2Proof.Machine

/-! ### The states of 95_test_vectors.md section 0 -/

/-- `BUF_CAP = 16`, `TIMEOUT_TICKS = 3`. -/
def params16 : Params := ⟨16, 3, .ignored⟩

/-- `S0`. -/
def s0 : State := State.resetWith params16

/-- `S_HI`. -/
def sHi : State := { s0 with phase := .lenHi, buf := [(0, 0x7E)], cursor := 1, wdArmed := true, wdCount := some 3 }

/-- `S_LO(h)`. -/
def sLo (h : Byte) : State := { sHi with phase := .lenLo, lenHi := some h, buf := [(0, 0x7E), (1, h)], cursor := 2 }

/-- `S_BODY(L, p...)` with the sum of the payload bytes so far written out. -/
def sBody (len : BitVec 16) (ps : List Byte) (sum : Byte) : State :=
  { sHi with
    phase := .body, buf := cellsFrom 0 ([0x7E, len.extractLsb' 8 8, len.extractLsb' 0 8] ++ ps), cursor := 3 + ps.length
    lenHi := some (len.extractLsb' 8 8), declLen := some len, remaining := some (len - BitVec.ofNat 16 ps.length)
    csum := some sum }

/-- The bytes 00 .. 0B of vector V-B22. -/
def twelve : List Byte := [0, 1, 2, 3, 4, 5, 6, 7, 8, 9, 10, 11]

/-- The step answers a next state and that state is as said. -/
def answers (o : Result) (p : State → Bool) : Bool :=
  match o with
  | .next t => p t
  | .fault _ => false
  | .refused _ => false

/-- The columns of a vector's end state: phase, cursor, bytes, len_hi, decl_len, remaining, csum, watchdog. -/
def endState (phase : Phase) (bytes : List Byte) (lenHi : Option Byte) (declLen remaining : Option (BitVec 16))
    (csum : Option Byte) (wd : Bool × Option Nat) (t : State) : Bool :=
  decide (t.phase = phase ∧ t.cursor = bytes.length ∧ t.buf = cellsFrom 0 bytes ∧ t.lenHi = lenHi ∧ t.declLen = declLen
    ∧ t.remaining = remaining ∧ t.csum = csum ∧ (t.wdArmed, t.wdCount) = wd)

/-- The output column: outcome and reports. -/
def output (o : FrameOutcome) (f : LineFlags) (t : State) : Bool := decide (t.outcome = some o ∧ t.errRpt = f)

/-! ### Words, bit by bit -/

/-- V-E2: KIND 00, RSV 00, FLAGS 0000, DATA 0x7E. -/
theorem test_decode_byte : decode 0b00_00_0000_01111110#16 = .byte 0x7E := by decide

/-- V-E5: KIND 01, RSV 00, FLAGS 1001 (FRM and OVR), DATA 0x33. -/
theorem test_decode_lerr : decode 0b01_00_1001_00110011#16 = .lerr ⟨true, false, false, true⟩ 0x33 := by decide

/-- R76: bit 9 is break, bit 10 is parity; neither takes the other's place. -/
theorem test_decode_lerr_middle_flags :
    decode 0b01_00_0010_00000000#16 = .lerr ⟨false, true, false, false⟩ 0
      ∧ decode 0b01_00_0100_00000000#16 = .lerr ⟨false, false, true, false⟩ 0 := by decide

/-- V-E7: KIND 10 and nothing else. -/
theorem test_decode_tout : decode 0b10_00_0000_00000000#16 = .tout := by decide

/-- V-E8 to V-E14: the reserved words of the vectors. -/
theorem test_decode_reserved :
    [0x0155#16, 0x4055#16, 0x8001#16, 0x1000#16, 0x6100#16, 0xC000#16, 0xFFFF#16, 0x8100#16].all
      (fun w => decide (decode w = .reserved w)) = true := by decide

/-- TICK and RESET are port inputs: no event word stands for them (R86). -/
theorem test_ports_have_no_word : encode .tick = none ∧ encode .reset = none := by decide

/-- R87: `LERR {OVR, FRM}, 0x33` is the word 0x4933; R78 and R80 beside it. -/
theorem test_encode_words :
    encode (.lerr ⟨true, false, false, true⟩ 0x33) = some 0x4933 ∧ encode (.byte 0x71) = some 0x0071
      ∧ encode .tout = some 0x8000 := by decide

/-- The table's numbering of a word's bits, and no more than one word. -/
theorem test_decodeTableWord :
    decodeTableWord 16 0x0000 = some (.byte 0) ∧ decodeTableWord 16 0x8000 = some .tout
      ∧ decodeTableWord 32 0x0000 = none := by decide

/-- WellFormed refuses a LERR with no flag (R79, R135). -/
theorem test_wellFormed_refuses_empty_flags : (Instr.lerr noFlags 0x55).wellFormed = false := by decide

/-- WellFormed refuses a reserved word that is an event word. -/
theorem test_wellFormed_refuses_unreserved : (Instr.reserved 0x0000).wellFormed = false
    ∧ (Instr.reserved 0x4100).wellFormed = false ∧ (Instr.reserved 0x8000).wellFormed = false := by decide

/-- P2: `FRAME` with no payload is 7E 00 00 FF; P1: `FRAME 0x7E, 0x10` ends in 0x71; P4: `FRAME_CS 0xF9: 0x05`. -/
theorem test_written_frames :
    expandLine (.frame []) = [.byte 0x7E, .byte 0x00, .byte 0x00, .byte 0xFF]
      ∧ expandLine (.frame [0x7E, 0x10]) = [.byte 0x7E, .byte 0x00, .byte 0x02, .byte 0x7E, .byte 0x10, .byte 0x71]
      ∧ expandLine (.frameCs 0xF9 [0x05]) = [.byte 0x7E, .byte 0x00, .byte 0x01, .byte 0x05, .byte 0xF9] := by decide

/-- R87, R88: the defaults and the pseudo-instructions of one event or of ticks. -/
theorem test_written_lines :
    expandLine (.lerr ⟨false, false, true, false⟩ none) = [.lerr ⟨false, false, true, false⟩ 0x00]
      ∧ expandLine (.handleByte 0x41 noFlags) = [.byte 0x41]
      ∧ expandLine (.handleByte 0x41 ⟨false, true, false, false⟩) = [.lerr ⟨false, true, false, false⟩ 0x41]
      ∧ expandLine .handleTimeout = [.tout] ∧ expandLine (.ticks 2) = [.tick, .tick] := by decide

/-! ### One step each -/

/-- V-B13: the sum wraps, and the arm reloads the count. -/
theorem test_byte_sum_wraps_and_rearms :
    answers (exec (.byte 0x02) { sBody 2 [0xFF] 0xFF with wdCount := some 1 }) (fun t =>
      endState .body [0x7E, 0x00, 0x02, 0xFF, 0x02] (some 0x00) (some 2) (some 0) (some 0x01) (true, some 3) t
        && output .continue_ noFlags t) = true := by decide

/-- V-B22: the checksum byte of the longest frame of BUF_CAP 16. -/
theorem test_byte_longest_frame :
    answers (exec (.byte 0xBD) (sBody 12 twelve 0x42)) (fun t =>
      endState .idle [] none none none none (true, some 3) t && output (.frameComplete twelve) noFlags t) = true := by
  decide

/-- V-L4. -/
theorem test_lerr_abandons :
    answers (exec (.lerr ⟨true, false, false, true⟩ 0x33) (sLo 0x00)) (fun t =>
      endState .idle [] none none none none (true, some 3) t
        && output (.frameDiscarded .lineError) ⟨true, false, false, true⟩ t && (errRptPort t == 0b1001#4)) = true := by
  decide

/-- V-L1: the 0x7E of a LERR does not start a frame. -/
theorem test_lerr_starts_no_frame :
    answers (exec (.lerr ⟨false, false, true, false⟩ 0x7E) s0) (fun t =>
      endState .idle [] none none none none (false, none) t
        && output .continue_ ⟨false, false, true, false⟩ t && (errRptPort t == 0b0100#4)) = true := by decide

/-- V-T6: the watchdog is left alone. -/
theorem test_tout_abandons :
    answers (exec .tout { sHi with wdArmed := false, wdCount := none }) (fun t =>
      endState .idle [] none none none none (false, none) t && output (.frameDiscarded .timeout) noFlags t) = true := by
  decide

/-- V-T1. -/
theorem test_tout_in_idle :
    answers (exec .tout s0) (fun t =>
      endState .idle [] none none none none (false, none) t && output .continue_ noFlags t) = true := by decide

/-- V-W4: the expiry. -/
theorem test_tick_expires :
    answers (exec .tick { sHi with wdCount := some 1, queue := [0x0055] }) (fun t =>
      endState .lenHi [0x7E] none none none none (false, none) t
        && decide (t.queue = [0x0055, 0x8000] ∧ t.wdExpire = true ∧ t.outcome = none)) = true := by decide

/-- V-W2. -/
theorem test_tick_counts :
    answers (exec .tick sHi) (fun t =>
      endState .lenHi [0x7E] none none none none (true, some 2) t
        && decide (t.queue = [] ∧ t.wdExpire = false)) = true := by decide

/-- V-X1. -/
theorem test_reset_in_a_frame :
    answers (exec .reset (sBody 3 [0x01] 0x01)) (fun t =>
      endState .idle [] none none none none (false, none) t && decide (t.outcome = none ∧ t.evtReady = false)) = true := by
  decide

/-- V-X2: the event stays in the queue, the tick is not counted. -/
theorem test_reset_beats_event_and_tick :
    answers (step { sHi with queue := [0x0000], schedule := [.clock true true true] }) (fun t =>
      endState .idle [] none none none none (false, none) t
        && decide (t.queue = [0x0000] ∧ t.evtReady = false ∧ t.outcome = none)) = true := by decide

/-- R81, the implementation's line: a word of KIND 0b11 in a frame changes nothing and gives Continue. -/
theorem test_reserved_ignored :
    answers (exec (decode 0xFFFF) (sBody 3 [0x01] 0x01)) (fun t =>
      endState .body [0x7E, 0x00, 0x03, 0x01] (some 0x00) (some 3) (some 2) (some 0x01) (true, some 3) t
        && output .continue_ noFlags t) = true := by decide

/-- R81, the model's line. -/
theorem test_reserved_refused :
    exec (decode 0x8001) { s0 with cfg := ⟨16, 3, .refused⟩ } = .refused (.reservedWord 0x8001) := rfl

/-! ### The step, from reset too -/

/-- V-W6: the arm wins over the tick of the same clock. -/
theorem test_step_arm_beats_tick :
    answers (step { sHi with wdCount := some 1, queue := [0x0000], schedule := [.clock false true true] }) (fun t =>
      endState .lenLo [0x7E, 0x00] (some 0x00) none none none (true, some 3) t
        && decide (t.queue = [] ∧ t.wdExpire = false)) = true := by decide

/-- P5 part B: after the TOUT of the queue is ignored in IDLE, the delimiter behind it starts a frame. -/
theorem test_step_takes_queue_head :
    answers (step { s0 with queue := [0x8000, 0x007E], schedule := [.clock false true false] }) (fun t =>
      endState .idle [] none none none none (false, none) t
        && output .continue_ noFlags t && decide (t.queue = [0x007E])) = true := by decide

/-- A placed word is the first input after reset, whatever legal parameters the block has. -/
theorem test_step_from_reset :
    answers (step (State.reset.withFetchWord 16 0x007E)) (fun t =>
      decide (t.phase = .lenHi ∧ t.buf = [(0, 0x7E)] ∧ t.wdArmed = true ∧ t.queue = [])) = true := by decide

/-- The buffer at reset is in canonical form. -/
theorem test_reset_buffer_wf : Memory.wf State.reset.buf := by decide

/-! ### States that meet the hypotheses of the obligations -/

/-- `S0` meets the invariant, with any parameters in the bounds of R2 and R4. -/
theorem resetWith_inv {p : Params} (h : p.wf) : (State.resetWith p).Inv :=
  ⟨h, (frameInv_idle rfl).2 ⟨rfl, rfl, rfl, rfl, rfl, rfl⟩, watchdogInv_iff.2 (.inl ⟨rfl, rfl⟩),
    fun _ h => (nomatch h), fun _ h => (nomatch h)⟩

theorem s0_inv : s0.Inv := resetWith_inv (by decide)

/-- The watchdog and the window of the named states that run a frame. -/
theorem sHi_wd : WatchdogInv sHi ∧ WindowInv sHi :=
  ⟨watchdogInv_iff.2 (.inr ⟨3, rfl, rfl, by decide, by decide⟩), fun _ h => (nomatch h), fun _ h => (nomatch h)⟩

theorem sHi_inv : sHi.Inv :=
  ⟨by decide, (frameInv_lenHi rfl).2 ⟨rfl, rfl, rfl, rfl, rfl, rfl⟩, sHi_wd.1, sHi_wd.2⟩

theorem sLo_inv (h : Byte) : (sLo h).Inv :=
  ⟨(by decide : params16.wf), (frameInv_lenLo rfl).2 ⟨h, rfl, rfl, rfl, rfl, rfl, rfl⟩, sHi_wd.1, sHi_wd.2⟩

theorem sBody_inv {len : BitVec 16} {ps : List Byte} {sum : Byte} (hlen : len.toNat ≤ 12)
    (hps : ps.length + (len - BitVec.ofNat 16 ps.length).toNat = len.toNat) (hsum : sum = byteSum ps) :
    (sBody len ps sum).Inv :=
  ⟨(by decide : params16.wf), frameInv_body_of (ps := ps) rfl rfl rfl rfl rfl rfl rfl rfl hps hsum (Nat.add_le_add_right hlen 4),
    sHi_wd.1, sHi_wd.2⟩

theorem sBody0_inv : (sBody 0 [] 0).Inv := sBody_inv (by decide) (by decide) (by decide)

theorem sBody1_inv : (sBody 1 [] 0).Inv := sBody_inv (by decide) (by decide) (by decide)

theorem sBody12_inv : (sBody 12 twelve 0x42).Inv := sBody_inv (by decide) (by decide) (by decide)

/-- A word under each clause, with FLAGS at its least and its greatest. -/
theorem witness_DecoderFollowsMatchAndMask :
    0x00FF#16 &&& 0xFF00#16 = 0x0000#16
      ∧ (0x4100#16 &&& 0xF000#16 = 0x4000#16 ∧ 0x4100#16 &&& 0x0F00#16 ≠ 0#16)
      ∧ (0x4FFF#16 &&& 0xF000#16 = 0x4000#16 ∧ 0x4FFF#16 &&& 0x0F00#16 ≠ 0#16)
      ∧ (0x4055#16 &&& 0xFF00#16 ≠ 0x0000#16
          ∧ ¬(0x4055#16 &&& 0xF000#16 = 0x4000#16 ∧ 0x4055#16 &&& 0x0F00#16 ≠ 0#16) ∧ 0x4055#16 ≠ 0x8000#16)
      ∧ (0x8001#16 &&& 0xFF00#16 ≠ 0x0000#16
          ∧ ¬(0x8001#16 &&& 0xF000#16 = 0x4000#16 ∧ 0x8001#16 &&& 0x0F00#16 ≠ 0#16) ∧ 0x8001#16 ≠ 0x8000#16) := by
  decide

/-- One input of each form that has a word. -/
theorem witness_DecodeAfterEncode :
    (Instr.byte 0xFF).wellFormed = true ∧ encode (.byte 0xFF) = some 0x00FF
      ∧ (Instr.lerr ⟨true, true, true, true⟩ 0xFF).wellFormed = true
      ∧ encode (.lerr ⟨true, true, true, true⟩ 0xFF) = some 0x4FFF
      ∧ Instr.tout.wellFormed = true ∧ encode .tout = some 0x8000
      ∧ (Instr.reserved 0x8001).wellFormed = true ∧ encode (.reserved 0x8001) = some 0x8001 := by decide

/-- The empty set and a set that is not. -/
theorem witness_HandleByteSplitsOnFlags :
    (⟨false, false, false, false⟩ : LineFlags) = noFlags ∧ (⟨true, false, false, false⟩ : LineFlags) ≠ noFlags := by decide

theorem witness_OutputPortCodes : twelve.length < 65536 ∧ ([] : List Byte).length < 65536 := by decide

/-- A LERR word, another word, and the two port inputs answer next states. -/
theorem witness_ErrorReportPort :
    (∃ t, exec (decode 0x4F00) sHi = .next t) ∧ (∃ t, exec (decode 0x0000) sHi = .next t)
      ∧ (∃ t, exec .tick sHi = .next t) ∧ ∃ t, exec .reset sHi = .next t :=
  ⟨⟨_, rfl⟩, ⟨_, rfl⟩, ⟨_, rfl⟩, ⟨_, rfl⟩⟩

theorem witness_IdleByteIsNoise : s0.phase = .idle ∧ (0x7F : Byte) ≠ 0x7E := by decide

theorem witness_DelimiterStartsFrame : s0.phase = .idle ∧ 0 < s0.cfg.bufCap := by decide

theorem witness_LengthHighIsStored : sHi.Inv ∧ sHi.phase = .lenHi := ⟨sHi_inv, rfl⟩

/-- V-B7: 13 is the least length that does not fit in 16 cells; V-B8: 65535 the greatest. -/
theorem witness_LengthLowOverflowDiscards :
    ((sLo 0x00).Inv ∧ (sLo 0x00).phase = .lenLo ∧ (sLo 0x00).lenHi = some 0x00
        ∧ (sLo 0x00).cfg.bufCap < (0x00 : Byte).toNat * 256 + (0x0D : Byte).toNat + 4)
      ∧ (sLo 0xFF).Inv ∧ (sLo 0xFF).cfg.bufCap < (0xFF : Byte).toNat * 256 + (0xFF : Byte).toNat + 4 :=
  ⟨⟨sLo_inv _, rfl, rfl, by decide⟩, sLo_inv _, by decide⟩

/-- V-B6: 12 is the greatest length that fits. -/
theorem witness_LengthLowAcceptedEntersBody :
    (sLo 0x00).Inv ∧ (sLo 0x00).phase = .lenLo ∧ (sLo 0x00).lenHi = some 0x00
      ∧ (0x00 : Byte).toNat * 256 + (0x0C : Byte).toNat + 4 ≤ (sLo 0x00).cfg.bufCap :=
  ⟨sLo_inv _, rfl, rfl, by decide⟩

/-- V-B14: the last payload byte. -/
theorem witness_PayloadByteIsAppended :
    (sBody 1 [] 0).Inv ∧ (sBody 1 [] 0).phase = .body ∧ (sBody 1 [] 0).remaining = some 1 ∧ (sBody 1 [] 0).csum = some 0
      ∧ 0 < (1 : BitVec 16).toNat :=
  ⟨sBody1_inv, rfl, rfl, rfl, by decide⟩

/-- V-B22 (L = 12) and V-B21 (L = 0). -/
theorem witness_MatchingChecksumCompletesFrame :
    ((sBody 12 twelve 0x42).Inv ∧ (sBody 12 twelve 0x42).phase = .body ∧ (sBody 12 twelve 0x42).remaining = some 0
        ∧ (sBody 12 twelve 0x42).csum = some 0x42 ∧ (sBody 12 twelve 0x42).declLen = some 12
        ∧ (0xBD : Byte).toNat = 255 - (0x42 : Byte).toNat)
      ∧ (sBody 0 [] 0).Inv ∧ (sBody 0 [] 0).remaining = some 0 ∧ (0xFF : Byte).toNat = 255 - (0 : Byte).toNat :=
  ⟨⟨sBody12_inv, rfl, by decide, rfl, rfl, by decide⟩, sBody0_inv, by decide, by decide⟩

/-- V-B23 for the first clause; for the second the longest payload of 16 cells, the first and the last byte that may be
flipped, and the first and the last bit. -/
theorem witness_WrongChecksumDiscardsFrame :
    ((sBody 0 [] 0).Inv ∧ (sBody 0 [] 0).phase = .body ∧ (sBody 0 [] 0).remaining = some 0 ∧ (sBody 0 [] 0).csum = some 0
        ∧ (0x7E : Byte).toNat ≠ 255 - (0 : Byte).toNat)
      ∧ s0.Inv ∧ s0.phase = .idle ∧ twelve.length + 4 ≤ s0.cfg.bufCap
      ∧ (3 ≤ 3 ∧ 3 < twelve.length + 4 ∧ 0 < 8) ∧ (3 ≤ 15 ∧ 15 < twelve.length + 4 ∧ 7 < 8) :=
  ⟨⟨sBody0_inv, rfl, by decide, rfl, by decide⟩, s0_inv, rfl, by decide, by decide, by decide⟩

/-- A state for each clause; in LEN_LO a length that fits (BUF_CAP 256) and one that does not (BUF_CAP 16), in BODY the
sum whose checksum byte is 0x7E and one whose is not. -/
theorem witness_NoDelimiterInsideFrame :
    (sHi.phase ≠ .idle ∧ ∃ t, exec (.byte 0x7E) sHi = .next t)
      ∧ (sHi.Inv ∧ sHi.phase = .lenHi)
      ∧ ((sLo 0x00).Inv ∧ (sLo 0x00).phase = .lenLo ∧ (sLo 0x00).lenHi = some 0x00
          ∧ (sLo 0x00).cfg.bufCap < (0x00 : Byte).toNat * 256 + 0x7E + 4)
      ∧ (∃ s : State, s.Inv ∧ s.phase = .lenLo ∧ s.lenHi = some 0x00
          ∧ (0x00 : Byte).toNat * 256 + 0x7E + 4 ≤ s.cfg.bufCap)
      ∧ ((sBody 1 [] 0).Inv ∧ (sBody 1 [] 0).phase = .body ∧ (sBody 1 [] 0).remaining = some 1 ∧ (1 : BitVec 16) ≠ 0)
      ∧ ((sBody 0 [] 0).Inv ∧ (sBody 0 [] 0).remaining = some 0 ∧ (sBody 0 [] 0).csum = some 0 ∧ (0 : Byte) ≠ 0x81)
      ∧ (sBody 1 [0x81] 0x81).Inv ∧ (sBody 1 [0x81] 0x81).remaining = some 0 ∧ (sBody 1 [0x81] 0x81).csum = some 0x81 :=
  ⟨⟨by decide, _, rfl⟩, ⟨sHi_inv, rfl⟩, ⟨sLo_inv _, rfl, rfl, by decide⟩,
    ⟨{ sLo 0x00 with cfg := ⟨130, 3, .ignored⟩ },
      ⟨by decide, (frameInv_lenLo rfl).2 ⟨0, rfl, rfl, rfl, rfl, rfl, rfl⟩,
        watchdogInv_iff.2 (.inr ⟨3, rfl, rfl, by decide, by decide⟩), fun _ h => (nomatch h), fun _ h => (nomatch h)⟩,
      rfl, rfl, by decide⟩,
    ⟨sBody1_inv, rfl, by decide, by decide⟩, ⟨sBody0_inv, by decide, rfl, by decide⟩,
    sBody_inv (by decide) (by decide) (by decide), by decide, rfl⟩

/-- A state of each phase; in BODY one with payload bytes to come and one at the checksum position. -/
theorem witness_TransitionTable :
    s0.Inv ∧ sHi.Inv ∧ (sLo 0x00).Inv ∧ (sBody 1 [] 0).Inv ∧ (sBody 12 twelve 0x42).Inv
      ∧ s0.phase = .idle ∧ sHi.phase = .lenHi ∧ (sLo 0x00).phase = .lenLo ∧ (sBody 1 [] 0).remaining = some 1
      ∧ (sBody 12 twelve 0x42).remaining = some 0 :=
  ⟨s0_inv, sHi_inv, sLo_inv _, sBody1_inv, sBody12_inv, rfl, rfl, rfl, by decide, by decide⟩

/-- IDLE, for R131 and R139. -/
theorem witness_LineErrorInIdleOnlyReports : s0.phase = .idle := rfl

/-- The three phases other than IDLE, for R133 and R140. -/
theorem witness_LineErrorAbandonsFrame :
    sHi.phase ≠ .idle ∧ (sLo 0x00).phase ≠ .idle ∧ (sBody 0 [] 0).phase ≠ .idle := by decide

theorem witness_TimeoutInIdleIsIgnored : s0.phase = .idle := rfl

theorem witness_TimeoutAbandonsFrame :
    sHi.phase ≠ .idle ∧ (sLo 0x00).phase ≠ .idle ∧ (sBody 0 [] 0).phase ≠ .idle := by decide

theorem witness_TickWhileDisarmed : s0.wdArmed = false := rfl

/-- 2 is the least count above 1. -/
theorem witness_TickCountsDown :
    ({ sHi with wdCount := some 2 } : State).wdArmed = true ∧ ({ sHi with wdCount := some 2 } : State).wdCount = some 2
      ∧ 1 < 2 := by decide

theorem witness_TickExpires :
    ({ sHi with wdCount := some 1 } : State).wdArmed = true
      ∧ ({ sHi with wdCount := some 1 } : State).wdCount = some 1 := by decide

/-- V-W6. -/
theorem witness_ArmBeatsTick :
    ({ sHi with wdCount := some 1, queue := [0x0000] } : State).queue = [0x0000]
      ∧ ∃ t, step { sHi with wdCount := some 1, queue := [0x0000], schedule := [.clock false true false] } = .next t
          ∧ t.arm = true := ⟨rfl, _, rfl, rfl⟩

/-- An event that arms and one that does not. -/
theorem witness_ArmsExactlyAsListed :
    (isEvent (.byte 0x0C) = true ∧ armsTable (sLo 0x00) (.byte 0x0C) = true
        ∧ ∃ t, exec (.byte 0x0C) (sLo 0x00) = .next t)
      ∧ isEvent (.byte 0x0D) = true ∧ armsTable (sLo 0x00) (.byte 0x0D) = false
      ∧ ∃ t, exec (.byte 0x0D) (sLo 0x00) = .next t :=
  ⟨⟨rfl, by decide, _, rfl⟩, rfl, by decide, _, rfl⟩

/-- An expiry and a reset. -/
theorem witness_OnlyExpiryAndResetDisarm :
    (∃ t, step { sHi with wdCount := some 1, schedule := [.clock false false true] } = .next t ∧ t.wdArmed = false)
      ∧ (∃ t, step { sHi with schedule := [.clock true false false] } = .next t ∧ t.wdArmed = false)
      ∧ sHi.wdArmed = true := ⟨⟨_, rfl, rfl⟩, ⟨_, rfl, rfl⟩, rfl⟩

/-- A stalled line of V-W10 with a TOUT, noise and a LERR among the ticks: the last tick is the TIMEOUT_TICKS-th. -/
def stalled : List Instr :=
  [.tick, .tout, .tick, .byte 0x55, .lerr ⟨true, false, false, false⟩ 0x7E, .reserved 0xC000, .tick]

theorem stalled_noFurtherArm (n : Nat) : NoFurtherArm (stalled.take n) sHi := by
  have h : NoFurtherArm stalled sHi :=
    ⟨rfl, nofun, by rintro _ ⟨⟩; exact ⟨rfl, nofun, by rintro _ ⟨⟩; exact ⟨rfl, nofun, by rintro _ ⟨⟩; exact
      ⟨by decide, nofun, by rintro _ ⟨⟩; exact ⟨rfl, nofun, by rintro _ ⟨⟩; exact ⟨rfl, nofun, by rintro _ ⟨⟩; exact
        ⟨rfl, nofun, by rintro _ ⟨⟩; trivial⟩⟩⟩⟩⟩⟩⟩
  exact noFurtherArm_take h n

/-- One tick fewer than the period, the period, each in a run with events; and the period of one tick, V-W9. -/
theorem witness_ExpiryOnLastTick :
    (1 ≤ sHi.cfg.timeoutTicks ∧ sHi.wdArmed = true ∧ sHi.wdCount = some sHi.cfg.timeoutTicks ∧ sHi.Inv
        ∧ sHi.cfg.reserved = .ignored)
      ∧ (NoFurtherArm (stalled.take 6) sHi ∧ (stalled.take 6).count .tick < sHi.cfg.timeoutTicks
          ∧ ∃ t, runInputs (stalled.take 6) sHi = .next t)
      ∧ (NoFurtherArm stalled sHi ∧ stalled.count .tick = sHi.cfg.timeoutTicks ∧ stalled.getLast? = some .tick
          ∧ ∃ t, runInputs stalled sHi = .next t)
      ∧ (∃ s : State, s.cfg.timeoutTicks = 1 ∧ s.wdArmed = true ∧ s.wdCount = some 1 ∧ NoFurtherArm [.tick] s
          ∧ (∃ t, runInputs [.tick] s = .next t) ∧ ∀ i ∈ [Instr.tick], i = .tick) :=
  ⟨⟨by decide, rfl, rfl, sHi_inv, rfl⟩, ⟨stalled_noFurtherArm 6, by decide, _, rfl⟩,
    ⟨stalled_noFurtherArm 7, by decide, by decide, _, rfl⟩,
    { sHi with cfg := ⟨16, 1, .ignored⟩, wdCount := some 1 }, rfl, rfl, rfl, ⟨rfl, nofun, fun _ _ => trivial⟩,
    ⟨_, rfl⟩, by simp⟩

theorem witness_SameInstantPostsInEitherOrder :
    ({ s0 with wdArmed := true, wdCount := some 1 } : State).wdArmed = true
      ∧ ({ s0 with wdArmed := true, wdCount := some 1 } : State).wdCount = some 1 := by decide

/-- V-X2. -/
theorem witness_ResetBeatsOtherInputs :
    ({ sHi with queue := [0x0000], schedule := [.clock true true true] } : State).schedule
      = .clock true true true :: [] := rfl

/-- Both lines of R179. -/
theorem witness_ReservedWordIgnoredOrRefused :
    s0.cfg.reserved = .ignored ∧ ({ s0 with cfg := ⟨16, 3, .refused⟩ } : State).cfg.reserved = .refused := by decide

theorem witness_StepRunsDecodedInput :
    ({ sHi with queue := [0x0000], schedule := [.clock false true false] } : State).queue = 0x0000 :: []
      ∧ ({ sHi with queue := [0x0000], schedule := [.clock false true false] } : State).schedule
          = .clock false true false :: [] := ⟨rfl, rfl⟩

/-- An offered TOUT in IDLE, which does not arm, with the watchdog as the three cases of a tick need it. -/
def idleOffer (armed : Bool) (count : Option Nat) (tick : Bool) : State :=
  { s0 with wdArmed := armed, wdCount := count, queue := [0x8000], schedule := [.clock false true tick] }

/-- An offered reserved word where the model's line of R179 refuses it. -/
def refusedOffer : State :=
  { s0 with cfg := ⟨16, 3, .refused⟩, queue := [0xC000], schedule := [.clock false true false] }

/-- R154 and R155 in a clock that also consumes an event that does not arm (log 8): the tick counts, and the TOUT of an
expiry is posted behind the queue. -/
theorem test_step_tick_counts_beside_event :
    answers (step (idleOffer true (some 2) true)) (fun t =>
      endState .idle [] none none none none (true, some 1) t && output .continue_ noFlags t) = true
      ∧ answers (step { idleOffer true (some 1) true with queue := [0x8000, 0x0055] }) (fun t =>
        endState .idle [] none none none none (false, none) t && output .continue_ noFlags t
          && decide (t.queue = [0x0055, 0x8000] ∧ t.wdExpire = true)) = true := by decide

/-- Each case of the last clause of StepRunsOtherMoves, the refused event too. -/
theorem witness_StepRunsOtherMoves_tickBesideEvent :
    (∃ t, step (idleOffer false none false) = .next t ∧ t.arm = false ∧ t.wdArmed = false)
      ∧ (∃ t, step (idleOffer true (some 2) false) = .next t ∧ t.arm = false ∧ t.wdArmed = true ∧ t.wdCount = some 2)
      ∧ (∃ t, step (idleOffer true (some 1) false) = .next t ∧ t.arm = false ∧ t.wdArmed = true ∧ t.wdCount = some 1)
      ∧ ∀ t, step refusedOffer ≠ .next t := by
  refine ⟨⟨_, rfl, rfl, rfl⟩, ⟨_, rfl, rfl, rfl, rfl⟩, ⟨_, rfl, rfl, rfl, rfl⟩, fun t h => ?_⟩
  have : step refusedOffer = .refused (.reservedWord 0xC000) := rfl
  rw [this] at h
  cases h

/-- A schedule for each clause. -/
theorem witness_StepRunsOtherMoves :
    ({ sHi with schedule := [.post 0x41 noFlags] } : State).schedule = .post 0x41 noFlags :: []
      ∧ ({ sHi with schedule := [.clock false false true] } : State).schedule = .clock false false true :: []
      ∧ ({ sHi with schedule := [.clock false false false] } : State).schedule = .clock false false false :: []
      ∧ (({ sHi with schedule := [.clock false true true] } : State).schedule = .clock false true true :: []
          ∧ sHi.queue = [])
      ∧ sHi.schedule = [] := ⟨rfl, rfl, rfl, ⟨rfl, rfl⟩, rfl⟩

/-- A step that takes a word and one that adds one. -/
theorem witness_QueueIsFirstInFirstOut :
    (∃ t, step { sHi with queue := [0x0000, 0x0001], schedule := [.clock false true false] } = .next t
        ∧ t.queue = [0x0001])
      ∧ ∃ t, step { sHi with queue := [0x0000], schedule := [.post 0x41 noFlags] } = .next t
          ∧ t.queue = [0x0000, 0x0041] := ⟨⟨_, rfl, rfl⟩, ⟨_, rfl, rfl⟩⟩

/-- A step that ends in IDLE, one that stores a byte, and a reserved word that stores none. -/
theorem witness_EventStoresOneByteAtCursor :
    ((sBody 0 [] 0).Inv ∧ ∃ t, exec (.byte 0xFF) (sBody 0 [] 0) = .next t ∧ t.phase = .idle)
      ∧ ((sBody 1 [] 0).Inv ∧ ∃ t, exec (.byte 0x7E) (sBody 1 [] 0) = .next t ∧ t.phase ≠ .idle)
      ∧ sHi.Inv ∧ ∃ t, exec (.reserved 0xC000) sHi = .next t ∧ t.phase ≠ .idle :=
  ⟨⟨sBody0_inv, _, rfl, rfl⟩, ⟨sBody1_inv, _, rfl, by decide⟩, sHi_inv, _, rfl, by decide⟩

theorem witness_StepKeepsInvariant :
    ({ sHi with schedule := [.clock false false true] } : State).Inv
      ∧ ∃ t, step { sHi with schedule := [.clock false false true] } = .next t :=
  ⟨⟨by decide, (frameInv_lenHi rfl).2 ⟨rfl, rfl, rfl, rfl, rfl, rfl⟩,
    watchdogInv_iff.2 (.inr ⟨3, rfl, rfl, by decide, by decide⟩), fun _ h => (nomatch h), fun _ h => (nomatch h)⟩, _, rfl⟩

/-- A run of three steps from reset, into BODY. -/
theorem witness_ReachableStatesAreInTheTable :
    params16.wf ∧ ∃ t, Sys2Proof.core.run 3 { State.resetWith params16 with
      queue := [0x007E, 0x0000, 0x0002], schedule := List.replicate 3 (.clock false true false) } = .next t
        ∧ t.phase = .body := ⟨by decide, _, rfl, rfl⟩

theorem witness_BufferStaysCanonical :
    Memory.wf sHi.buf ∧ ∃ t, step { sHi with queue := [0x0000], schedule := [.clock false true false] } = .next t :=
  ⟨by decide, _, rfl⟩

theorem witness_CleanQueueStaysClean :
    CleanQueue sHi ∧ ∃ t, step { sHi with schedule := [.post 0x41 noFlags] } = .next t :=
  ⟨fun _ h => (nomatch h), _, rfl⟩

/-- The premise of BlockNeverStops each way. -/
theorem witness_BlockNeverStops :
    sHi.Inv ∧ CleanQueue sHi ∧ (State.resetWith ⟨16, 3, .refused⟩).Inv ∧ CleanQueue (State.resetWith ⟨16, 3, .refused⟩)
      ∧ s0.Inv ∧ s0.cfg.reserved = .ignored :=
  ⟨sHi_inv, fun _ h => (nomatch h), resetWith_inv (by decide), fun _ h => (nomatch h), s0_inv, rfl⟩

theorem witness_ParametersAreFixed : ∃ t, step { sHi with schedule := [.clock true false false] } = .next t := ⟨_, rfl⟩

/-- The cursor at its greatest in BODY: `BUF_CAP - 1`. -/
theorem witness_CursorStaysInBuffer :
    (sBody 12 twelve 0x42).Inv ∧ (sBody 12 twelve 0x42).phase = .body ∧ (sBody 12 twelve 0x42).cursor = 15 :=
  ⟨sBody12_inv, rfl, rfl⟩

/-- A step into IDLE and one that stays out of it. -/
theorem witness_EachFrameEndsWithOneOutcome :
    (sHi.Inv ∧ sHi.phase ≠ .idle ∧ ∃ t, exec .tout sHi = .next t ∧ t.phase = .idle)
      ∧ (∃ t, exec (.byte 0x00) sHi = .next t ∧ t.phase ≠ .idle)
      ∧ s0.Inv ∧ s0.phase = .idle ∧ ∃ t, exec (.byte 0x55) s0 = .next t :=
  ⟨⟨sHi_inv, by decide, _, rfl, rfl⟩, ⟨_, rfl, by decide⟩, s0_inv, rfl, _, rfl⟩

/-- The empty payload and the longest of 16 cells, the first with ticks between the bytes; and a step that completes a
frame; and a run that completes one, after noise. -/
theorem witness_ExactlyWellFormedFramesComplete :
    (s0.Inv ∧ s0.phase = .idle ∧ ([] : List Byte).length + 4 ≤ s0.cfg.bufCap
        ∧ ([.byte 0x7E, .tick, .byte 0x00, .byte 0x00, .tick, .tick, .byte 0xFF] : List Instr).filter
            (fun i => decide (i ≠ .tick)) = byteInputs (frameBytes []))
      ∧ twelve.length + 4 ≤ s0.cfg.bufCap
      ∧ (sBody 12 twelve 0x42).Inv
      ∧ (∃ t, exec (.byte 0xBD) (sBody 12 twelve 0x42) = .next t ∧ t.outcome = some (.frameComplete twelve))
      ∧ ∃ t, runInputs ([.byte 0x55, .byte 0x7E, .byte 0x00, .tick, .byte 0x00] ++ [.byte 0xFF]) s0 = .next t
          ∧ t.outcome = some (.frameComplete []) :=
  ⟨⟨s0_inv, rfl, by decide, by decide⟩, by decide, sBody12_inv, ⟨_, rfl, rfl⟩, _, rfl, rfl⟩

/-- A FrameComplete with an address inside the payload and one past it; a tick; an event that closes the window. -/
theorem witness_PayloadWindow :
    ((sBody 12 twelve 0x42).Inv
        ∧ (∃ t, exec (.byte 0xBD) (sBody 12 twelve 0x42) = .next t ∧ t.outcome = some (.frameComplete twelve))
        ∧ (11 : BitVec 16).toNat < twelve.length ∧ twelve.length ≤ (12 : BitVec 16).toNat)
      ∧ (∃ t, exec .tick { s0 with payload := some twelve } = .next t)
      ∧ ∃ t, isEvent (.byte 0x55) = true ∧ exec (.byte 0x55) { s0 with payload := some twelve } = .next t
          ∧ ∀ p, t.outcome ≠ some (.frameComplete p) :=
  ⟨⟨sBody12_inv, ⟨_, rfl, rfl⟩, by decide, by decide⟩, ⟨_, rfl⟩, _, rfl, rfl, fun _ h => (nomatch h)⟩

theorem witness_EventStepReadsOnlyFrame :
    SameFrame sHi { sHi with wdArmed := false, wdCount := none, queue := [0x8000], payload := some twelve }
      ∧ isEvent (.byte 0x00) = true ∧ ∃ t, exec (.byte 0x00) sHi = .next t :=
  ⟨⟨rfl, rfl, rfl, rfl, rfl, rfl, rfl, rfl⟩, rfl, _, rfl⟩

theorem witness_OneOutcomePerEvent :
    (isEvent .tout = true ∧ ∃ t, exec .tout sHi = .next t) ∧ (∃ t, exec .tick sHi = .next t)
      ∧ ∃ t, exec .reset sHi = .next t := ⟨⟨rfl, _, rfl⟩, ⟨_, rfl⟩, _, rfl⟩

/-- The cursor at the capacity and one below it. -/
theorem witness_AppendIsBounded :
    ({ sHi with cursor := 16 } : State).cfg.bufCap ≤ ({ sHi with cursor := 16 } : State).cursor
      ∧ ({ sHi with cursor := 15 } : State).cursor < ({ sHi with cursor := 15 } : State).cfg.bufCap := by decide

theorem witness_PlacedWordRunsNext : 0xFFFF < 65536 := by decide

end Sys2Proof.Tests
end

section
/-! SUPPORT. The parameters of the block after reset are legal (spec/00_scope.md R1 to R4), and the reset state's
fields (spec/10_state.md R41). -/

namespace Sys2Proof

/-- The free values of R1 only move BUF_CAP up from 4 by less than 65536 (R2) and TIMEOUT_TICKS up from 1 (R4). -/
theorem Config.params_wf : Config.params.wf := by
  have hlt : Config.bufCapAboveLeast.val < 65536 := Config.bufCapAboveLeast.isLt
  refine ⟨?least, ?greatest, ?ticks⟩
  case least => exact Nat.le_add_left 4 _
  case greatest => exact Nat.add_le_add_right (Nat.le_of_lt_succ hlt) 4
  case ticks => exact Nat.le_add_left 1 _

namespace Machine

/-- Settles O38: each field by its own reset lemma, and the block's own parameters are legal. -/
theorem resetStateValues : Obligations.ResetStateValues := by
  unfold Obligations.ResetStateValues State.reset
  exact ⟨State.resetWith_phase _, Memory.read_nil, State.resetWith_cursor _, State.resetWith_lenHi _,
    State.resetWith_declLen _, State.resetWith_remaining _, State.resetWith_csum _, State.resetWith_wdArmed _,
    State.resetWith_wdCount _, Config.params_wf⟩

end Machine
end Sys2Proof
end

section
/-! SUPPORT. The fault arm of BufAppend and its bounds (spec/20_memory.md R52). -/

namespace Sys2Proof.Machine

/-- The fault arm of R52, beside `bufAppend_of_lt` for the writing one. -/
theorem bufAppend_of_capacity_le {b : Byte} {s : State} (h : s.cfg.bufCap ≤ s.cursor) :
    bufAppend b s = .fault .appendPastCapacity :=
  if_pos h

/-- Settles O57: each arm of R52 by its own lemma, and the cells by the read-after-write lemmas of the buffer. -/
theorem appendIsBounded : Obligations.AppendIsBounded := by
  unfold Obligations.AppendIsBounded
  intro b s
  refine ⟨bufAppend_of_capacity_le, fun below => ⟨_, bufAppend_of_lt below, rfl, ?written, ?others⟩⟩
  case written => exact Memory.read_write_same s.buf s.cursor b
  case others => exact fun a other => Memory.read_write_other s.buf b other

end Sys2Proof.Machine
end

section
/-! SUPPORT. The form of an event word read through a mask, the decoder form by form (spec/30_encoding.md R78 to R81), and
the declared length (R71). -/

namespace Sys2Proof

/-- Every word is a pack of four fields (R74). -/
theorem exists_packWord (w : EventWord) : ∃ k r f d, w = packWord k r f d :=
  ⟨_, _, _, _, (packWord_fields w).symm⟩

/-- A bitwise and goes field by field. -/
theorem packWord_and (k k' r r' : BitVec 2) (f f' : BitVec 4) (d d' : Byte) :
    packWord k r f d &&& packWord k' r' f' d' = packWord (k &&& k') (r &&& r') (f &&& f') (d &&& d') := by
  apply BitVec.eq_of_getLsbD_eq
  intro i _
  simp only [packWord, BitVec.getLsbD_and, BitVec.getLsbD_append]
  split_ifs <;> rfl

section Masks

variable (k r : BitVec 2) (f : BitVec 4) (d : Byte)

/-- The mask of the BYTE form drops DATA (R78). -/
theorem packWord_and_byteMask : packWord k r f d &&& 0xFF00#16 = packWord k r f 0#8 := by
  have fields := packWord_and k (BitVec.allOnes 2) r (BitVec.allOnes 2) f (BitVec.allOnes 4) d 0#8
  simp only [BitVec.and_allOnes, BitVec.and_zero] at fields
  exact fields

/-- The mask of the LERR form keeps KIND and RSV (R79). -/
theorem packWord_and_lerrMask : packWord k r f d &&& 0xF000#16 = packWord k r 0#4 0#8 := by
  have fields := packWord_and k (BitVec.allOnes 2) r (BitVec.allOnes 2) f 0#4 d 0#8
  simp only [BitVec.and_allOnes, BitVec.and_zero] at fields
  exact fields

/-- The mask of the LERR condition, `word[11:8]`, keeps FLAGS (R79). -/
theorem packWord_and_flagsMask : packWord k r f d &&& 0x0F00#16 = packWord 0#2 0#2 f 0#8 := by
  have fields := packWord_and k 0#2 r 0#2 f (BitVec.allOnes 4) d 0#8
  simp only [BitVec.and_allOnes, BitVec.and_zero] at fields
  exact fields

variable {k r f d}

/-- A word matches the BYTE form where KIND, RSV and FLAGS are 0 (R78). -/
theorem matches_byte_form :
    packWord k r f d &&& 0xFF00#16 = 0x0000#16 ↔ k = 0#2 ∧ r = 0#2 ∧ f = 0#4 := by
  rw [packWord_and_byteMask, show 0x0000#16 = packWord 0#2 0#2 0#4 0#8 from rfl, packWord_inj]
  simp only [and_true]

/-- A word matches the LERR form where KIND is 1 and RSV is 0 (R79). -/
theorem matches_lerr_form : packWord k r f d &&& 0xF000#16 = 0x4000#16 ↔ k = 1#2 ∧ r = 0#2 := by
  rw [packWord_and_lerrMask, show 0x4000#16 = packWord 1#2 0#2 0#4 0#8 from rfl, packWord_inj]
  simp only [and_true]

/-- The condition of the LERR form is one on FLAGS alone (R79). -/
theorem flags_masked_eq_zero : packWord k r f d &&& 0x0F00#16 = 0#16 ↔ f = 0#4 := by
  rw [packWord_and_flagsMask, show 0#16 = packWord 0#2 0#2 0#4 0#8 from rfl, packWord_inj]
  simp only [and_true, true_and]

/-- The one word of the TOUT form (R80). -/
theorem eq_tout_form : packWord k r f d = 0x8000#16 ↔ k = 2#2 ∧ r = 0#2 ∧ f = 0#4 ∧ d = 0#8 := by
  rw [show 0x8000#16 = packWord 2#2 0#2 0#4 0#8 from rfl, packWord_inj]

end Masks

/-! ### The decoder, form by form -/

theorem decode_byte_form (d : Byte) : decode (packWord 0#2 0#2 0#4 d) = .byte d := by
  simp [decode_packWord]

theorem decode_lerr_form {f : BitVec 4} (d : Byte) (some_flag : f ≠ 0#4) :
    decode (packWord 1#2 0#2 f d) = .lerr (flagsOfBits f) d := by
  simp [decode_packWord, some_flag]

theorem decode_timeoutWord : decode 0x8000#16 = .tout := rfl

/-- A word of none of the three forms is reserved (R81). -/
theorem decode_other_form {k r : BitVec 2} {f : BitVec 4} {d : Byte}
    (not_byte : ¬(k = 0#2 ∧ r = 0#2 ∧ f = 0#4)) (not_lerr : ¬((k = 1#2 ∧ r = 0#2) ∧ f ≠ 0#4))
    (not_tout : ¬(k = 2#2 ∧ r = 0#2 ∧ f = 0#4 ∧ d = 0#8)) :
    decode (packWord k r f d) = .reserved (packWord k r f d) := by
  rw [decode_packWord]
  split_ifs with rsv kind_byte no_flag kind_lerr some_flag kind_tout empty
  · rfl
  · exact absurd ⟨kind_byte, not_not.1 rsv, no_flag⟩ not_byte
  · rfl
  · exact absurd ⟨⟨kind_lerr, not_not.1 rsv⟩, some_flag⟩ not_lerr
  · rfl
  · exact absurd ⟨kind_tout, not_not.1 rsv, empty⟩ not_tout
  · rfl
  · rfl

/-- DATA is the low byte (R74). -/
theorem wordData_eq_setWidth (w : EventWord) : wordData w = w.setWidth 8 :=
  (BitVec.setWidth_eq_extractLsb' (by decide)).symm

/-- The flag set of a word, bit by bit (R76). -/
theorem flagsOfBits_wordFlags (w : EventWord) :
    flagsOfBits (wordFlags w) = ⟨w.getLsbD 8, w.getLsbD 9, w.getLsbD 10, w.getLsbD 11⟩ := by
  simp [flagsOfBits, wordFlags]

/-- The set of a LERR word is its FLAGS (R79, R82). -/
theorem bitsOfFlags_of_decode_lerr {w : EventWord} {flags : LineFlags} {d : Byte} (h : decode w = .lerr flags d) :
    bitsOfFlags flags = wordFlags w := by
  unfold decode at h
  split_ifs at h
  cases h
  exact bitsOfFlags_flagsOfBits _

namespace Machine

/-- Settles O2: a word is the pack of its fields, each mask and match is a condition on them, and so is each form of
the decoder. -/
theorem decoderFollowsMatchAndMask : Obligations.DecoderFollowsMatchAndMask := by
  unfold Obligations.DecoderFollowsMatchAndMask
  intro w
  rw [← flagsOfBits_wordFlags, ← wordData_eq_setWidth]
  obtain ⟨k, r, f, d, rfl⟩ := exists_packWord w
  simp only [wordFlags_packWord, wordData_packWord, ne_eq, matches_byte_form, matches_lerr_form, flags_masked_eq_zero,
    eq_tout_form]
  refine ⟨?byte, ?lerr, ?tout, decode_other_form⟩
  case byte =>
    rintro ⟨rfl, rfl, rfl⟩
    exact decode_byte_form d
  case lerr =>
    rintro ⟨rfl, rfl⟩ some_flag
    exact decode_lerr_form d some_flag
  case tout =>
    rintro ⟨rfl, rfl, rfl, rfl⟩
    exact decode_timeoutWord

/-- Settles O18: the declared length in exact arithmetic. -/
theorem lengthIsBigEndian : Obligations.LengthIsBigEndian := by
  unfold Obligations.LengthIsBigEndian
  exact declaredLength_toNat

end Machine
end Sys2Proof
end

section
/-! SUPPORT. What each input leaves on the report port (spec/30_encoding.md R85): the set of a LERR, the empty set for
every other input. -/

namespace Sys2Proof.Machine

/-- The flags an input brings with it: those of a LERR (R85). -/
def reportOf : Instr → LineFlags
  | .byte _ => noFlags
  | .lerr flags _ => flags
  | .tout => noFlags
  | .tick => noFlags
  | .reset => noFlags
  | .reserved _ => noFlags

@[simp] theorem joinFlags_noFlags (f : LineFlags) : joinFlags noFlags f = f := by
  simp [joinFlags, noFlags]

@[simp] theorem bitsOfFlags_noFlags : bitsOfFlags noFlags = 0#4 := rfl

section Report

variable {s t : State}

theorem bufAppend_keeps_errRpt {b : Byte} (h : bufAppend b s = .next t) : t.errRpt = s.errRpt := by
  obtain ⟨-, rfl⟩ := bufAppend_eq_next.1 h
  rfl

/-- What follows an append keeps the report if it does so from the state the append leaves. -/
theorem append_andThen_keeps_errRpt {b : Byte} {k : State → Result} (h : andThen (bufAppend b s) k = .next t)
    (keeps : ∀ u, k u = .next t → t.errRpt = u.errRpt) : t.errRpt = s.errRpt := by
  obtain ⟨u, appended, rest⟩ := andThen_eq_next.1 h
  exact (keeps u rest).trans (bufAppend_keeps_errRpt appended)

theorem byteDelimiter_keeps_errRpt (h : byteDelimiter s = .next t) : t.errRpt = s.errRpt := by
  refine append_andThen_keeps_errRpt (s := bufReset s) h fun u rest => ?_
  cases rest
  rfl

theorem byteLengthHigh_keeps_errRpt {b : Byte} (h : byteLengthHigh b s = .next t) : t.errRpt = s.errRpt := by
  refine append_andThen_keeps_errRpt (s := { s with lenHi := some b }) h fun u rest => ?_
  cases rest
  rfl

theorem byteLengthLow_keeps_errRpt {b : Byte} (h : byteLengthLow b s = .next t) : t.errRpt = s.errRpt := by
  refine append_andThen_keeps_errRpt h fun u rest => ?_
  obtain ⟨hi, -, rest⟩ := andThen_eq_next.1 rest
  split at rest <;> cases rest <;> rfl

theorem bytePayload_keeps_errRpt {b : Byte} {n : BitVec 16} (h : bytePayload b n s = .next t) :
    t.errRpt = s.errRpt := by
  refine append_andThen_keeps_errRpt h fun u rest => ?_
  obtain ⟨sum, -, rest⟩ := andThen_eq_next.1 rest
  cases rest
  rfl

theorem frameComplete_keeps_errRpt (h : frameComplete s = .next t) : t.errRpt = s.errRpt := by
  obtain ⟨len, -, rest⟩ := andThen_eq_next.1 h
  obtain ⟨p, -, rest⟩ := andThen_eq_next.1 rest
  cases rest
  rfl

theorem byteChecksum_keeps_errRpt {c : Byte} (h : byteChecksum c s = .next t) : t.errRpt = s.errRpt := by
  refine append_andThen_keeps_errRpt h fun u rest => ?_
  obtain ⟨sum, -, rest⟩ := andThen_eq_next.1 rest
  split at rest
  · exact frameComplete_keeps_errRpt rest
  · cases rest
    rfl

/-- No arm of BYTE reports a flag (R100). -/
theorem byteStep_keeps_errRpt {b : Byte} (h : byteStep b s = .next t) : t.errRpt = s.errRpt := by
  unfold byteStep at h
  cases phase : s.phase with simp only [phase] at h
  | idle =>
    split at h
    · exact byteDelimiter_keeps_errRpt h
    · cases h
      rfl
  | lenHi => exact byteLengthHigh_keeps_errRpt h
  | lenLo => exact byteLengthLow_keeps_errRpt h
  | body =>
    obtain ⟨n, -, rest⟩ := andThen_eq_next.1 h
    split at rest
    · exact byteChecksum_keeps_errRpt rest
    · exact bytePayload_keeps_errRpt rest

theorem abandonFrame_keeps_errRpt {r : DiscardReason} (h : abandonFrame r s = .next t) : t.errRpt = s.errRpt := by
  by_cases idle : s.phase = .idle
  · rw [abandonFrame_idle idle] at h
    cases h
    rfl
  · rw [abandonFrame_open idle] at h
    cases h
    rfl

theorem tickWatchdog_keeps_errRpt (h : tickWatchdog s = .next t) : t.errRpt = s.errRpt := by
  obtain ⟨-, rfl⟩ | ⟨n, -, -, -, rfl⟩ | ⟨-, -, rfl⟩ := tickWatchdog_eq_next.1 h <;> rfl

theorem execReserved_errRpt {w : EventWord} (h : execReserved w s = .next t) : t.errRpt = noFlags := by
  unfold execReserved at h
  split at h <;> cases h
  rfl

/-- After every input the report is what the input brought: the ports of the step before are cleared first (R34), and
LERR alone adds to the empty set (R85, R130). -/
theorem exec_errRpt {i : Instr} (h : exec i s = .next t) : t.errRpt = reportOf i := by
  cases i with
  | byte b => exact (byteStep_keeps_errRpt (s := openEvent s) h).trans (openEvent_errRpt s)
  | lerr flags d =>
    exact (abandonFrame_keeps_errRpt (s := report flags (openEvent s)) h).trans (joinFlags_noFlags flags)
  | tout => exact (abandonFrame_keeps_errRpt (s := openEvent s) h).trans (openEvent_errRpt s)
  | tick => exact (tickWatchdog_keeps_errRpt (s := openClock s) h).trans (openClock_errRpt s)
  | reset =>
    cases h
    rfl
  | reserved w => exact execReserved_errRpt h

theorem errRptPort_exec {i : Instr} (h : exec i s = .next t) : errRptPort t = bitsOfFlags (reportOf i) :=
  congrArg bitsOfFlags (exec_errRpt h)

end Report

/-- The port has one bit per flag (R85). -/
theorem getLsbD_bitsOfFlags (f : LineFlags) :
    (bitsOfFlags f).getLsbD 0 = f.ovr ∧ (bitsOfFlags f).getLsbD 1 = f.brk
      ∧ (bitsOfFlags f).getLsbD 2 = f.par ∧ (bitsOfFlags f).getLsbD 3 = f.frm := by
  have fields := flagsOfBits_bitsOfFlags f
  exact ⟨congrArg LineFlags.ovr fields, congrArg LineFlags.brk fields, congrArg LineFlags.par fields,
    congrArg LineFlags.frm fields⟩

/-- Settles O8: the port shows what the input of the step brought, and a LERR word brings its FLAGS. -/
theorem errorReportPort : Obligations.ErrorReportPort := by
  unfold Obligations.ErrorReportPort
  refine ⟨fun s => getLsbD_bitsOfFlags s.errRpt, ?word, ?port⟩
  case word =>
    intro w s t h
    rw [errRptPort_exec h]
    cases input : decode w with
    | lerr flags d => exact bitsOfFlags_of_decode_lerr input
    | byte _ | tout | tick | reset | reserved _ => exact bitsOfFlags_noFlags
  case port => exact fun s t h => h.elim errRptPort_exec errRptPort_exec

end Sys2Proof.Machine
end

section
/-! SUPPORT. BYTE outside the payload phase (spec/40_byte_received.md R101 to R107): the arm of each phase, and the whole
state it leaves. -/

namespace Sys2Proof.Machine

section Arms

variable {b : Byte} {s : State}

/-- In IDLE the byte is the delimiter or noise (R101, R102). -/
theorem exec_byte_idle (phase : s.phase = .idle) :
    exec (.byte b) s = if b = delim then byteDelimiter (openEvent s) else byteNoise (openEvent s) := by
  simp only [exec, execByte, byteStep, openEvent_phase, phase]

/-- In LEN_HI the byte is the length-high byte (R104). -/
theorem exec_byte_lenHi (phase : s.phase = .lenHi) : exec (.byte b) s = byteLengthHigh b (openEvent s) := by
  simp only [exec, execByte, byteStep, openEvent_phase, phase]

/-- In LEN_LO the byte is the length-low byte (R105). -/
theorem exec_byte_lenLo (phase : s.phase = .lenLo) : exec (.byte b) s = byteLengthLow b (openEvent s) := by
  simp only [exec, execByte, byteStep, openEvent_phase, phase]

/-- In BODY the byte is payload or the checksum, as `remaining` says (R108, R110). -/
theorem exec_byte_body (phase : s.phase = .body) :
    exec (.byte b) s = andThen (readField .remaining s.remaining) fun n =>
      if n = 0 then byteChecksum b (openEvent s) else bytePayload b n (openEvent s) := by
  simp only [exec, execByte, byteStep, openEvent_phase, openEvent_remaining, phase]

end Arms

/-- Settles O9: the noise arm emits Continue and does nothing else. -/
theorem idleByteIsNoise : Obligations.IdleByteIsNoise := by
  unfold Obligations.IdleByteIsNoise
  intro b s phase other
  rw [exec_byte_idle phase, if_neg (show b ≠ delim from other)]
  rfl

/-- Settles O10: after the reset of the buffer the delimiter goes to index 0, which exists. -/
theorem delimiterStartsFrame : Obligations.DelimiterStartsFrame := by
  unfold Obligations.DelimiterStartsFrame
  intro s phase room
  have appended := bufAppend_of_lt (b := delim) (s := bufReset (openEvent s)) room
  rw [exec_byte_idle phase, if_pos (show 0x7E = delim from rfl), byteDelimiter, appended]
  rfl

/-- Settles O11: the buffer holds the delimiter alone (R30), so the length-high byte goes to index 1. -/
theorem lengthHighIsStored : Obligations.LengthHighIsStored := by
  unfold Obligations.LengthHighIsStored
  intro b s inv phase
  obtain ⟨buf, cursor, -⟩ := (frameInv_lenHi phase).1 inv.frame
  have room : 1 < s.cfg.bufCap := Nat.lt_of_lt_of_le (by decide) inv.params.1
  have appended := bufAppend_cells (b := b) (s := { openEvent s with lenHi := some b }) (bs := [delim]) buf cursor room
  rw [exec_byte_lenHi phase, byteLengthHigh, appended]
  rfl

/-- In LEN_LO the low byte goes to index 2, and the capacity test on the exact length decides what follows (R105). -/
theorem exec_byte_lenLo_of_inv {b hi : Byte} {s : State} (inv : s.Inv) (phase : s.phase = .lenLo)
    (high : s.lenHi = some hi) :
    exec (.byte b) s =
      if s.cfg.bufCap < hi.toNat * 256 + b.toNat + 4 then
        lengthOverflow { openEvent s with buf := cellsFrom 0 [delim, hi, b], cursor := 3 }
      else
        lengthAccepted (declaredLength hi b) { openEvent s with buf := cellsFrom 0 [delim, hi, b], cursor := 3 } := by
  obtain ⟨hi', high', buf, cursor, -⟩ := (frameInv_lenLo phase).1 inv.frame
  obtain rfl : hi = hi' := Option.some.inj (high.symm.trans high')
  have room : 2 < s.cfg.bufCap := Nat.lt_of_lt_of_le (by decide) inv.params.1
  have appended := bufAppend_cells (b := b) (s := openEvent s) (bs := [delim, hi]) buf cursor room
  rw [exec_byte_lenLo phase, byteLengthLow, appended]
  simp only [andThen_next, openEvent_lenHi, high, readField_some, openEvent_cfg, overflows_eq, declaredLength_toNat,
    decide_eq_true_eq]
  rfl

/-- Settles O12: the overflow arm resynchronises and calls no Arm(). -/
theorem lengthLowOverflowDiscards : Obligations.LengthLowOverflowDiscards := by
  unfold Obligations.LengthLowOverflowDiscards
  intro b hi s inv phase high tooLong
  rw [exec_byte_lenLo_of_inv inv phase high, if_pos tooLong]
  rfl

/-- The declared length as the number its two bytes stand for (R71). -/
theorem declaredLength_eq_ofNat (hi lo : Byte) :
    declaredLength hi lo = BitVec.ofNat 16 (hi.toNat * 256 + lo.toNat) := by
  rw [← declaredLength_toNat, BitVec.ofNat_toNat, BitVec.setWidth_eq]

/-- Settles O13: the accepting arm starts `remaining` at the declared length. -/
theorem lengthLowAcceptedEntersBody : Obligations.LengthLowAcceptedEntersBody := by
  unfold Obligations.LengthLowAcceptedEntersBody
  intro b hi s inv phase high fits
  rw [exec_byte_lenLo_of_inv inv phase high, if_neg (Nat.not_lt.2 fits), ← declaredLength_eq_ofNat]
  rfl

end Sys2Proof.Machine
end

section
/-! SUPPORT. BYTE in the payload phase (spec/40_byte_received.md R108 to R112): a payload byte, and the two ends of a
frame at the checksum position. -/

namespace Sys2Proof.Machine

section Body

variable {b c sum : Byte} {rem : BitVec 16} {s : State}

/-- The BODY row of R30, for values of `remaining` and `csum` known already. -/
theorem bodyRow_of_inv (inv : s.Inv) (phase : s.phase = .body) (left : s.remaining = some rem)
    (running : s.csum = some sum) :
    ∃ hi len, s.lenHi = some hi ∧ s.declLen = some len ∧ bodyRow s hi len rem sum := by
  obtain ⟨hi, len, rem', sum', high, declared, left', running', row⟩ := (frameInv_body phase).1 inv.frame
  obtain rfl : rem = rem' := Option.some.inj (left.symm.trans left')
  obtain rfl : sum = sum' := Option.some.inj (running.symm.trans running')
  exact ⟨hi, len, high, declared, row⟩

/-- In BODY there is room for one byte more: the payload still to come and the checksum byte fit (R31). -/
theorem cursor_lt_bufCap_of_body (inv : s.Inv) (phase : s.phase = .body) : s.cursor < s.cfg.bufCap := by
  obtain ⟨hi, len, rem, sum, -, -, -, -, -, -, cursor, count, -, fits⟩ := (frameInv_body phase).1 inv.frame
  have : overhead = 4 := rfl
  omega

/-- In BODY the cursor stands behind the delimiter, the two length bytes and the payload bytes so far (R54). -/
theorem cursor_eq_length {hi : Byte} {len : BitVec 16} (row : bodyRow s hi len rem sum) :
    s.cursor = 0 + ([delim, hi, len.extractLsb' 0 8] ++ payloadSoFar s).length := by
  have ⟨_, _, cursor, _⟩ := row
  simp only [cursor, List.length_append, List.length_cons, List.length_nil, Nat.zero_add]

/-- The cell at the cursor is the next one, so the bytes stay consecutive (R54). -/
theorem buf_append_at_cursor {hi : Byte} {len : BitVec 16} (row : bodyRow s hi len rem sum) :
    s.buf ++ [(s.cursor, b)] = cellsFrom 0 ([delim, hi, len.extractLsb' 0 8] ++ (payloadSoFar s ++ [b])) := by
  have ⟨buf, _⟩ := row
  rw [← List.append_assoc, cellsFrom_append, ← buf, ← cursor_eq_length row]
  rfl

/-- A write at the cursor of BODY puts the cell behind all the others. -/
theorem write_at_cursor {hi : Byte} {len : BitVec 16} (row : bodyRow s hi len rem sum) :
    s.buf.write s.cursor b = s.buf ++ [(s.cursor, b)] := by
  have ⟨buf, _⟩ := row
  rw [buf_append_at_cursor row, ← List.append_assoc, ← Memory.write_cellsFrom, ← cursor_eq_length row, ← buf]

/-- The append of a BODY step (R52, R54). -/
theorem bufAppend_of_body (inv : s.Inv) (phase : s.phase = .body) :
    bufAppend b (openEvent s) =
      .next { openEvent s with buf := s.buf ++ [(s.cursor, b)], cursor := s.cursor + 1 } := by
  obtain ⟨hi, len, rem, sum, -, -, -, -, row⟩ := (frameInv_body phase).1 inv.frame
  rw [bufAppend_of_lt (s := openEvent s) (cursor_lt_bufCap_of_body (s := s) inv phase), openEvent_buf, openEvent_cursor,
    write_at_cursor row]

/-- While bytes remain the byte is payload (R108), in the model's own arithmetic. -/
theorem exec_byte_payload (inv : s.Inv) (phase : s.phase = .body) (left : s.remaining = some rem)
    (running : s.csum = some sum) (more : rem ≠ 0) :
    exec (.byte b) s = .next (withEventPorts .continue_ noFlags true none (withArmedWatchdog
      { s with
        buf := s.buf ++ [(s.cursor, b)], cursor := s.cursor + 1
        csum := some (addToSum sum b), remaining := some (rem - 1) })) := by
  rw [exec_byte_body phase, left, readField_some, andThen_next, if_neg more, bytePayload,
    bufAppend_of_body inv phase, andThen_next, openEvent_csum, running, readField_some, andThen_next]
  rfl

/-- At the checksum position the byte is stored and compared (R110). -/
theorem exec_byte_checksum (inv : s.Inv) (phase : s.phase = .body) (left : s.remaining = some 0)
    (running : s.csum = some sum) :
    exec (.byte c) s =
      if c = expectedChecksum sum then
        frameComplete { openEvent s with buf := s.buf ++ [(s.cursor, c)], cursor := s.cursor + 1 }
      else checksumMismatch { openEvent s with buf := s.buf ++ [(s.cursor, c)], cursor := s.cursor + 1 } := by
  rw [exec_byte_body phase, left, readField_some, andThen_next, if_pos rfl, byteChecksum,
    bufAppend_of_body inv phase, andThen_next, openEvent_csum, running, readField_some, andThen_next]

/-- The payload handed over is what stands from index 3 on, without the checksum byte just stored (R111). -/
theorem bufReadRange_payload {hi : Byte} {len : BitVec 16} (row : bodyRow s hi len 0 sum) :
    bufReadRange { openEvent s with buf := s.buf ++ [(s.cursor, b)], cursor := s.cursor + 1 } 3 len.toNat =
      .next (payloadSoFar s) := by
  have ⟨_, _, _, count, _, fits⟩ := row
  have size : (payloadSoFar s).length = len.toNat := count
  have cells := bufReadRange_cells
    (s := { openEvent s with buf := s.buf ++ [(s.cursor, b)], cursor := s.cursor + 1 }) (buf_append_at_cursor row)
    (by simpa [size, Nat.add_assoc, overhead] using fits) 3 len.toNat (by simp [size]; omega)
  rw [cells, ← size]
  simp

/-- The matching checksum byte completes the frame with the payload bytes so far (R111). -/
theorem exec_byte_completes (inv : s.Inv) (phase : s.phase = .body) (left : s.remaining = some 0)
    (running : s.csum = some sum) :
    exec (.byte (expectedChecksum sum)) s =
      .next (withEventPorts (.frameComplete (payloadSoFar s)) noFlags false (some (payloadSoFar s))
        (withEmptyFrame s)) := by
  obtain ⟨hi, len, -, declared, row⟩ := bodyRow_of_inv inv phase left running
  rw [exec_byte_checksum inv phase left running, if_pos rfl, frameComplete, openEvent_declLen, declared,
    readField_some, andThen_next, bufReadRange_payload row]
  rfl

/-- Any other checksum byte drops the frame (R112). -/
theorem exec_byte_mismatch (inv : s.Inv) (phase : s.phase = .body) (left : s.remaining = some 0)
    (running : s.csum = some sum) (other : c ≠ expectedChecksum sum) :
    exec (.byte c) s =
      .next (withEventPorts (.frameDiscarded .checksumMismatch) noFlags false none (withEmptyFrame s)) := by
  rw [exec_byte_checksum inv phase left running, if_neg other]
  rfl

/-- The expected checksum as a number (R109). -/
theorem eq_expectedChecksum_iff : c = expectedChecksum sum ↔ c.toNat = 255 - sum.toNat := by
  unfold expectedChecksum
  bv_omega

/-- The payload bytes so far are the cells from index 3 on (R54). -/
theorem payloadSoFar_getElem? {hi : Byte} {len : BitVec 16} (row : bodyRow s hi len rem sum) (i : Nat) :
    (payloadSoFar s)[i]? = s.buf.read (3 + i) := by
  have ⟨buf, _⟩ := row
  have cell := Memory.read_cellsFrom 0 (3 + i) ([delim, hi, len.extractLsb' 0 8] ++ payloadSoFar s)
  rw [Nat.zero_add, ← buf] at cell
  rw [cell, List.getElem?_append_right (Nat.le_add_right 3 i)]
  simp

end Body

/-- Settles O14: the payload arm, its two sums as numbers. -/
theorem payloadByteIsAppended : Obligations.PayloadByteIsAppended := by
  unfold Obligations.PayloadByteIsAppended
  intro b c rem s inv phase left running more
  have nonzero : rem ≠ 0 := by
    rintro rfl
    exact absurd more (by decide)
  have newSum : BitVec.ofNat 8 ((c.toNat + b.toNat) % 256) = addToSum c b := by
    unfold addToSum
    bv_omega
  have fewer : BitVec.ofNat 16 (rem.toNat - 1) = rem - 1 := by bv_omega
  rw [newSum, fewer]
  exact exec_byte_payload inv phase left running nonzero

/-- Settles O15: the payload is `payloadSoFar`, which R30 says is `decl_len` bytes long once none remains. -/
theorem matchingChecksumCompletesFrame : Obligations.MatchingChecksumCompletesFrame := by
  unfold Obligations.MatchingChecksumCompletesFrame
  intro c sum len s inv phase left running declared matching
  obtain ⟨hi, len', -, declared', row⟩ := bodyRow_of_inv inv phase left running
  obtain rfl : len = len' := Option.some.inj (declared.symm.trans declared')
  have ⟨_, _, _, count, _⟩ := row
  obtain rfl := eq_expectedChecksum_iff.2 matching
  exact ⟨payloadSoFar s, count, fun i _ => payloadSoFar_getElem? row i, exec_byte_completes inv phase left running⟩

end Sys2Proof.Machine
end

section
/-! SUPPORT. A 0x7E outside IDLE (spec/40_byte_received.md R103): where each arm of BYTE leads, from any state. -/

namespace Sys2Proof.Machine

section NextPhase

variable {b : Byte} {s t : State}

theorem byteLengthHigh_phase (h : byteLengthHigh b s = .next t) : t.phase = .lenLo := by
  obtain ⟨u, -, rest⟩ := andThen_eq_next.1 h
  cases rest
  rfl

theorem byteLengthLow_phase (h : byteLengthLow b s = .next t) : t.phase = .idle ∨ t.phase = .body := by
  obtain ⟨u, -, rest⟩ := andThen_eq_next.1 h
  obtain ⟨hi, -, rest⟩ := andThen_eq_next.1 rest
  split at rest <;> cases rest
  · exact .inl rfl
  · exact .inr rfl

theorem bytePayload_phase {n : BitVec 16} (h : bytePayload b n s = .next t) : t.phase = s.phase := by
  obtain ⟨u, appended, rest⟩ := andThen_eq_next.1 h
  obtain ⟨-, rfl⟩ := bufAppend_eq_next.1 appended
  obtain ⟨sum, -, rest⟩ := andThen_eq_next.1 rest
  cases rest
  rfl

theorem frameComplete_phase (h : frameComplete s = .next t) : t.phase = .idle := by
  obtain ⟨len, -, rest⟩ := andThen_eq_next.1 h
  obtain ⟨p, -, rest⟩ := andThen_eq_next.1 rest
  cases rest
  rfl

theorem byteChecksum_phase (h : byteChecksum b s = .next t) : t.phase = .idle := by
  obtain ⟨u, -, rest⟩ := andThen_eq_next.1 h
  obtain ⟨sum, -, rest⟩ := andThen_eq_next.1 rest
  split at rest
  · exact frameComplete_phase rest
  · cases rest
    rfl

/-- LEN_HI is entered from IDLE alone (R22, R103). -/
theorem exec_byte_open_phase (inFrame : s.phase ≠ .idle) (h : exec (.byte b) s = .next t) : t.phase ≠ .lenHi := by
  cases phase : s.phase with
  | idle => exact absurd phase inFrame
  | lenHi =>
    rw [exec_byte_lenHi phase] at h
    simp [byteLengthHigh_phase h]
  | lenLo =>
    rw [exec_byte_lenLo phase] at h
    rcases byteLengthLow_phase h with next | next <;> simp [next]
  | body =>
    rw [exec_byte_body phase] at h
    obtain ⟨n, -, rest⟩ := andThen_eq_next.1 h
    split at rest
    · simp [byteChecksum_phase rest]
    · simp [bytePayload_phase rest, phase]

end NextPhase

/-- The sum whose checksum byte is the delimiter's value. -/
theorem delim_eq_expectedChecksum_iff {sum : Byte} : 0x7E#8 = expectedChecksum sum ↔ sum = 0x81#8 := by
  unfold expectedChecksum
  bv_omega

/-- Settles O19: no arm outside IDLE leads to LEN_HI, and each arm's own equation holds of the byte 0x7E. -/
theorem noDelimiterInsideFrame : Obligations.NoDelimiterInsideFrame := by
  unfold Obligations.NoDelimiterInsideFrame
  refine ⟨fun b s t => exec_byte_open_phase, ?lenHi, ?lenLo, ?payload, ?checksum⟩
  case lenHi => exact fun s inv phase => ⟨_, lengthHighIsStored 0x7E s inv phase, rfl, rfl, rfl⟩
  case lenLo =>
    intro hi s inv phase high
    by_cases fits : hi.toNat * 256 + 0x7E + 4 ≤ s.cfg.bufCap
    · exact ⟨_, lengthLowAcceptedEntersBody 0x7E hi s inv phase high fits, fun _ => ⟨rfl, rfl, rfl⟩,
        fun tooLong => absurd fits (Nat.not_le.2 tooLong)⟩
    · exact ⟨_, lengthLowOverflowDiscards 0x7E hi s inv phase high (Nat.lt_of_not_le fits),
        fun fits' => absurd fits' fits, fun _ => ⟨rfl, rfl⟩⟩
  case payload =>
    intro rem s inv phase left more
    obtain ⟨-, -, -, sum, -, -, -, running, -⟩ := (frameInv_body phase).1 inv.frame
    obtain ⟨hi, len, -, -, row⟩ := bodyRow_of_inv inv phase left running
    refine ⟨_, exec_byte_payload inv phase left running more, phase, rfl, ?stored, rfl⟩
    have cell := Memory.read_write_same s.buf s.cursor 0x7E
    rwa [write_at_cursor row] at cell
  case checksum =>
    intro sum s inv phase left running
    by_cases matching : 0x7E#8 = expectedChecksum sum
    · exact ⟨_, matching ▸ exec_byte_completes inv phase left running, rfl, fun _ => rfl,
        fun other => absurd (delim_eq_expectedChecksum_iff.1 matching) other⟩
    · exact ⟨_, exec_byte_mismatch inv phase left running matching, rfl,
        fun equal => absurd (delim_eq_expectedChecksum_iff.2 equal) matching, fun _ => rfl⟩

end Sys2Proof.Machine
end

section
/-! SUPPORT. The inputs of a run one after another (spec/43_interface_and_step.md R182), and a frame fed byte by byte
(spec/40_byte_received.md R101 to R112). -/

namespace Sys2Proof.Machine

section Runs

variable {s t u : State} {is js : List Instr} {seen seen' : List (FrameOutcome × LineFlags)}

theorem observeInputs_cons {i : Instr} (first : exec i s = .next t) (rest : observeInputs is t = .next (seen, u)) :
    observeInputs (i :: is) s = .next (observation t ++ seen, u) := by
  simp only [observeInputs, first, rest, andThen_next]

/-- The observations of two runs, one after the other, in their order. -/
theorem observeInputs_append (first : observeInputs is s = .next (seen, t))
    (rest : observeInputs js t = .next (seen', u)) : observeInputs (is ++ js) s = .next (seen ++ seen', u) := by
  induction is generalizing s seen with
  | nil =>
    cases first
    exact rest
  | cons i is ih =>
    obtain ⟨v, head, others⟩ := andThen_eq_next.1 first
    obtain ⟨⟨later, w⟩, tail, result⟩ := andThen_eq_next.1 others
    cases result
    rw [List.append_assoc]
    exact observeInputs_cons head (ih tail)

/-- One more Continue in front of a run of them. -/
theorem observe_continue {b : Byte} {bs : List Byte} {n : Nat} (first : exec (.byte b) s = .next t)
    (shown : observation t = [(.continue_, noFlags)])
    (rest : observeInputs (byteInputs bs) t = .next (List.replicate n (.continue_, noFlags), u)) :
    observeInputs (byteInputs (b :: bs)) s = .next (List.replicate (n + 1) (.continue_, noFlags), u) := by
  have run := observeInputs_cons first rest
  rwa [shown] at run

end Runs

section Frame

/-- A good state of the payload phase with `rem` bytes to come and the sum `sum` so far. -/
structure InBody (s : State) (rem : BitVec 16) (sum : Byte) : Prop where
  inv       : s.Inv
  phase     : s.phase = .body
  remaining : s.remaining = some rem
  csum      : s.csum = some sum

/-- A step that emits Continue and calls Arm() leaves a good state where it leaves a frame of R30: the watchdog it arms
has the full count (R29), and the payload window is closed. -/
theorem inv_armed {s : State} (params : s.cfg.wf) (frame : FrameInv s) :
    (withEventPorts .continue_ noFlags true none (withArmedWatchdog s)).Inv where
  params := params
  frame := frameInv_congr ⟨rfl, rfl, rfl, rfl, rfl, rfl, rfl, rfl⟩ frame
  watchdog := watchdogInv_iff.2 (.inr ⟨s.cfg.timeoutTicks, rfl, rfl, params.2.2, Nat.le_refl _⟩)
  window := ⟨fun _ h => (nomatch h), fun _ h => (nomatch h)⟩

variable {s : State} {rem : BitVec 16} {sum : Byte}

/-- A payload byte counts down and adds to the sum, and leaves the BODY row of R30 (R108). -/
theorem InBody.payloadByte (h : InBody s rem sum) (more : rem ≠ 0) (b : Byte) :
    ∃ t, exec (.byte b) s = .next t ∧ observation t = [(.continue_, noFlags)]
      ∧ InBody t (rem - 1) (addToSum sum b) := by
  obtain ⟨inv, phase, left, running⟩ := h
  obtain ⟨hi, len, high, declared, row⟩ := bodyRow_of_inv inv phase left running
  have ⟨_, highByte, cursor, count, total, fits⟩ := row
  have frame : FrameInv { s with
      buf := s.buf ++ [(s.cursor, b)], cursor := s.cursor + 1
      csum := some (addToSum sum b), remaining := some (rem - 1) } := by
    refine frameInv_body_of phase high declared rfl rfl (buf_append_at_cursor row) highByte ?cursor ?count ?total fits
    case cursor => simp [cursor, Nat.add_assoc]
    case count =>
      rw [List.length_append, List.length_singleton]
      bv_omega
    case total => rw [total, byteSum_append]
  exact ⟨_, exec_byte_payload inv phase left running more, rfl, inv_armed inv.params frame, phase, rfl, rfl⟩

/-- All the payload bytes to come, fed one after another, lead to the checksum position. -/
theorem InBody.payload (h : InBody s rem sum) (p : List Byte) (size : rem.toNat = p.length) :
    ∃ t, observeInputs (byteInputs p) s = .next (List.replicate p.length (.continue_, noFlags), t)
      ∧ InBody t 0 (p.foldl addToSum sum) := by
  induction p generalizing s rem sum with
  | nil =>
    obtain rfl : rem = 0 := BitVec.eq_of_toNat_eq size
    exact ⟨s, rfl, h⟩
  | cons b p ih =>
    rw [List.length_cons] at size
    have more : rem ≠ 0 := by
      rintro rfl
      exact absurd size (Nat.succ_ne_zero _).symm
    obtain ⟨t, first, shown, inBody⟩ := h.payloadByte more b
    obtain ⟨u, rest, atChecksum⟩ := ih inBody (by bv_omega)
    exact ⟨u, observe_continue first shown rest, atChecksum⟩

/-- The delimiter leads from a good IDLE state to a good LEN_HI state (R102). -/
theorem delimiter_enters_lenHi (inv : s.Inv) (phase : s.phase = .idle) :
    ∃ t, exec (.byte delim) s = .next t ∧ observation t = [(.continue_, noFlags)]
      ∧ t.Inv ∧ t.phase = .lenHi ∧ t.cfg = s.cfg := by
  have room : 0 < s.cfg.bufCap := Nat.lt_of_lt_of_le (by decide) inv.params.1
  have frame : FrameInv { withEmptyFrame s with phase := .lenHi, buf := [(0, delim)], cursor := 1 } :=
    (frameInv_lenHi rfl).2 ⟨rfl, rfl, rfl, rfl, rfl, rfl⟩
  exact ⟨_, delimiterStartsFrame s phase room, rfl, inv_armed inv.params frame, rfl, rfl⟩

/-- The length-high byte leads from a good LEN_HI state to a good LEN_LO state (R104). -/
theorem lengthHigh_enters_lenLo (inv : s.Inv) (phase : s.phase = .lenHi) (b : Byte) :
    ∃ t, exec (.byte b) s = .next t ∧ observation t = [(.continue_, noFlags)]
      ∧ t.Inv ∧ t.phase = .lenLo ∧ t.lenHi = some b ∧ t.cfg = s.cfg := by
  obtain ⟨-, -, -, noLength, noCount, noSum⟩ := (frameInv_lenHi phase).1 inv.frame
  have frame : FrameInv { s with phase := .lenLo, lenHi := some b, buf := [(0, delim), (1, b)], cursor := 2 } :=
    (frameInv_lenLo rfl).2 ⟨b, rfl, rfl, rfl, noLength, noCount, noSum⟩
  exact ⟨_, lengthHighIsStored b s inv phase, rfl, inv_armed inv.params frame, rfl, rfl, rfl⟩

/-- The length-low byte of a frame that fits leads to a good state before the first payload byte (R107). -/
theorem lengthLow_enters_body {hi : Byte} (inv : s.Inv) (phase : s.phase = .lenLo) (high : s.lenHi = some hi)
    (b : Byte) (fits : hi.toNat * 256 + b.toNat + 4 ≤ s.cfg.bufCap) :
    ∃ t, exec (.byte b) s = .next t ∧ observation t = [(.continue_, noFlags)] ∧ InBody t (declaredLength hi b) 0 := by
  have accepted := lengthLowAcceptedEntersBody b hi s inv phase high fits
  rw [← declaredLength_eq_ofNat] at accepted
  have frame : FrameInv { s with
      phase := .body, buf := [(0, delim), (1, hi), (2, b)], cursor := 3
      declLen := some (declaredLength hi b), remaining := some (declaredLength hi b), csum := some 0 } := by
    have highByte := declaredLength_high hi b
    refine frameInv_body_of (ps := []) rfl high rfl rfl rfl ?buf highByte rfl (Nat.zero_add _) rfl ?fits
    case buf =>
      rw [declaredLength_low]
      rfl
    case fits =>
      rw [declaredLength_toNat]
      exact fits
  exact ⟨_, accepted, rfl, inv_armed inv.params frame, rfl, rfl, rfl⟩

/-- The three bytes before the payload lead from IDLE to the payload phase, where the declared frame fits. -/
theorem observe_header {hi lo : Byte} (inv : s.Inv) (phase : s.phase = .idle)
    (fits : hi.toNat * 256 + lo.toNat + 4 ≤ s.cfg.bufCap) :
    ∃ t, observeInputs (byteInputs [delim, hi, lo]) s = .next (List.replicate 3 (.continue_, noFlags), t)
      ∧ InBody t (declaredLength hi lo) 0 := by
  obtain ⟨t, first, shown, inv, phase, params⟩ := delimiter_enters_lenHi inv phase
  obtain ⟨u, second, shown', inv, phase, high, params'⟩ := lengthHigh_enters_lenLo inv phase hi
  rw [← params, ← params'] at fits
  obtain ⟨v, third, shown'', inBody⟩ := lengthLow_enters_body inv phase high lo fits
  exact ⟨v, observe_continue first shown (observe_continue second shown' (observe_continue third shown'' rfl)), inBody⟩

/-- The length field of a payload that fits a legal buffer is its length (R72). -/
theorem declaredLength_of_payload {p : List Byte} (size : p.length < 65536) :
    (declaredLength (lengthHigh p) (lengthLow p)).toNat = p.length := by
  rw [lengthHigh, lengthLow, declaredLength_extract, BitVec.toNat_ofNat]
  exact Nat.mod_eq_of_lt size

/-- Every byte of a frame but the checksum byte, fed from IDLE, gives Continue and leads to the checksum position with
the sum of the payload. -/
theorem observe_to_checksum (inv : s.Inv) (phase : s.phase = .idle) {p : List Byte}
    (fits : p.length + 4 ≤ s.cfg.bufCap) :
    ∃ t, observeInputs (byteInputs ([delim, lengthHigh p, lengthLow p] ++ p)) s =
        .next (List.replicate (p.length + 3) (.continue_, noFlags), t)
      ∧ InBody t 0 (byteSum p) := by
  obtain ⟨-, greatest, -⟩ := inv.params
  have size := declaredLength_of_payload (p := p) (by omega)
  obtain ⟨t, header, inBody⟩ := observe_header (hi := lengthHigh p) (lo := lengthLow p) inv phase
    (by rw [← declaredLength_toNat, size]; exact fits)
  obtain ⟨u, payload, atChecksum⟩ := inBody.payload p size
  have run := observeInputs_append header payload
  rw [← List.replicate_add, Nat.add_comm] at run
  rw [byteInputs, List.map_append]
  exact ⟨u, run, atChecksum⟩

/-- A frame whose last byte is not the checksum of its payload gives Continue for every other byte and then the discard
of R112. -/
theorem observe_frameWithChecksum_mismatch (inv : s.Inv) (phase : s.phase = .idle) {p : List Byte} {c : Byte}
    (fits : p.length + 4 ≤ s.cfg.bufCap) (other : c ≠ frameChecksum p) :
    ∃ t, observeInputs (byteInputs (frameWithChecksum c p)) s =
        .next (List.replicate (p.length + 3) (.continue_, noFlags) ++ [(.frameDiscarded .checksumMismatch, noFlags)], t)
      ∧ t.phase = .idle := by
  obtain ⟨t, run, inv, phase, left, running⟩ := observe_to_checksum inv phase fits
  have last := exec_byte_mismatch inv phase left running other
  rw [frameWithChecksum, byteInputs, List.map_append]
  exact ⟨_, observeInputs_append run (observeInputs_cons last rfl), rfl⟩

end Frame

/-! ### One byte of a frame changed -/

/-- The rest of the sum tells two sums apart as well as before. -/
theorem foldl_addToSum_inj {a b : Byte} (p : List Byte) : p.foldl addToSum a = p.foldl addToSum b ↔ a = b := by
  induction p generalizing a b with
  | nil => rfl
  | cons c p ih =>
    rw [List.foldl_cons, List.foldl_cons, ih]
    exact BitVec.add_left_inj c

/-- A payload with one byte changed has another checksum. -/
theorem frameChecksum_modify_ne {p : List Byte} {i : Nat} {f : Byte → Byte} (changes : ∀ b, f b ≠ b)
    (inside : i < p.length) : frameChecksum p ≠ frameChecksum (p.modify i f) := by
  have sums : byteSum (p.modify i f) ≠ byteSum p := by
    intro same
    have whole : byteSum p = byteSum (p.take i ++ p[i] :: p.drop (i + 1)) := by
      rw [← List.drop_eq_getElem_cons inside, List.take_append_drop]
    rw [List.modify_eq_take_cons_drop inside, whole] at same
    simp only [byteSum, List.foldl_append, List.foldl_cons, foldl_addToSum_inj] at same
    exact changes _ ((BitVec.add_right_inj _).1 same)
  unfold frameChecksum expectedChecksum
  bv_omega

/-- A change within the front part leaves what is behind it alone. -/
theorem modify_append_of_lt {p q : List Byte} {i : Nat} {f : Byte → Byte} (inside : i < p.length) :
    (p ++ q).modify i f = p.modify i f ++ q := by
  have inside' : i < (p ++ q).length := by
    rw [List.length_append]
    omega
  rw [List.modify_eq_take_cons_drop inside', List.modify_eq_take_cons_drop inside, List.getElem_append_left inside,
    List.take_append_of_le_length inside.le, List.drop_append_of_le_length inside, List.append_assoc, List.cons_append]

/-- A change behind the front part leaves that alone. -/
theorem modify_append_add (p q : List Byte) (i : Nat) (f : Byte → Byte) :
    (p ++ q).modify (p.length + i) f = p ++ q.modify i f :=
  List.modifyTailIdx_add (List.modifyHead f) i p q

/-- A frame with one byte of its payload or its checksum changed is one of a payload of the same length whose last byte
is not its checksum. -/
theorem frameBytes_modify {p : List Byte} {j : Nat} {f : Byte → Byte} (changes : ∀ b, f b ≠ b) (behind : 3 ≤ j)
    (inside : j < p.length + 4) :
    ∃ c q, (frameBytes p).modify j f = frameWithChecksum c q ∧ q.length = p.length ∧ c ≠ frameChecksum q := by
  obtain ⟨i, rfl⟩ := Nat.exists_eq_add_of_le behind
  have header : (frameBytes p).modify (3 + i) f =
      [delim, lengthHigh p, lengthLow p] ++ (p ++ [frameChecksum p]).modify i f := by
    rw [frameBytes, frameWithChecksum, List.append_assoc]
    exact modify_append_add [delim, lengthHigh p, lengthLow p] _ i f
  by_cases inPayload : i < p.length
  · have size : (p.modify i f).length = p.length := List.length_modify f p i
    refine ⟨frameChecksum p, p.modify i f, ?_, size, frameChecksum_modify_ne changes inPayload⟩
    rw [header, modify_append_of_lt inPayload, frameWithChecksum, lengthHigh, lengthLow, lengthHigh, lengthLow, size,
      List.append_assoc]
  · obtain rfl : i = p.length + 0 := by omega
    refine ⟨f (frameChecksum p), p, ?_, rfl, changes _⟩
    rw [header, modify_append_add, frameWithChecksum, List.append_assoc]
    rfl

/-- A flipped bit changes the byte. -/
theorem xor_bit_ne {k : Nat} (bit : k < 8) (b : Byte) : b ^^^ (1#8 <<< k) ≠ b := by
  have nonzero : 1#8 <<< k ≠ 0#8 := by interval_cases k <;> decide
  exact fun same => nonzero ((BitVec.xor_right_inj b).1 (same.trans BitVec.xor_zero.symm))

/-- Settles O16: the mismatch arm, and at the end of a run the same arm, since a flipped bit leaves a frame whose last
byte is not its checksum. -/
theorem wrongChecksumDiscardsFrame : Obligations.WrongChecksumDiscardsFrame := by
  unfold Obligations.WrongChecksumDiscardsFrame
  constructor
  case left =>
    intro c sum s inv phase left running other
    exact exec_byte_mismatch inv phase left running (mt eq_expectedChecksum_iff.1 other)
  case right =>
    intro p j k s inv phase fits behind inside bit
    obtain ⟨c, q, flipped, size, other⟩ := frameBytes_modify (xor_bit_ne bit) behind inside
    rw [flipped, ← size]
    exact observe_frameWithChecksum_mismatch inv phase (size ▸ fits) other

end Sys2Proof.Machine
end

section
/-! SUPPORT. LERR and TOUT (spec/41_line_error_and_timeout.md R130 to R141): both end in one shared state, which the phase,
the discard reason and the reported flags alone decide. -/

namespace Sys2Proof.Machine

/-- Where a LERR or a TOUT leaves the block: in IDLE only the ports change (R131, R139); from any other phase the frame is
emptied and discarded with `r` (R133, R140). -/
def abandoned (r : DiscardReason) (f : LineFlags) (s : State) : State :=
  if s.phase = .idle then withEventPorts .continue_ f false none s
  else withEventPorts (.frameDiscarded r) f false none (withEmptyFrame s)

section Abandoned

variable {r : DiscardReason} {f : LineFlags} {s : State}

theorem abandoned_of_idle (idle : s.phase = .idle) :
    abandoned r f s = withEventPorts .continue_ f false none s := if_pos idle

theorem abandoned_of_open (inFrame : s.phase ≠ .idle) :
    abandoned r f s = withEventPorts (.frameDiscarded r) f false none (withEmptyFrame s) := if_neg inFrame

theorem abandoned_phase : (abandoned r f s).phase = .idle := by
  by_cases idle : s.phase = .idle
  · rw [abandoned_of_idle idle, withEventPorts_phase, idle]
  · rw [abandoned_of_open idle, withEventPorts_phase, withEmptyFrame_phase]

theorem abandoned_outcome :
    (abandoned r f s).outcome = some (if s.phase = .idle then .continue_ else .frameDiscarded r) := by
  by_cases idle : s.phase = .idle
  · rw [abandoned_of_idle idle, withEventPorts_outcome, if_pos idle]
  · rw [abandoned_of_open idle, withEventPorts_outcome, if_neg idle]

theorem abandoned_wdArmed : (abandoned r f s).wdArmed = s.wdArmed := by
  by_cases idle : s.phase = .idle
  · rw [abandoned_of_idle idle, withEventPorts_wdArmed]
  · rw [abandoned_of_open idle, withEventPorts_wdArmed, withEmptyFrame_wdArmed]

theorem abandoned_wdCount : (abandoned r f s).wdCount = s.wdCount := by
  by_cases idle : s.phase = .idle
  · rw [abandoned_of_idle idle, withEventPorts_wdCount]
  · rw [abandoned_of_open idle, withEventPorts_wdCount, withEmptyFrame_wdCount]

/-- The ports are no frame fields. -/
theorem sameFrame_withEventPorts (o : FrameOutcome) (f : LineFlags) (a : Bool) (w : Option (List Byte)) (s : State) :
    SameFrame s (withEventPorts o f a w s) := by
  constructor <;> rfl

theorem sameFrame_abandoned_of_idle (idle : s.phase = .idle) : SameFrame s (abandoned r f s) := by
  rw [abandoned_of_idle idle]
  exact sameFrame_withEventPorts _ _ _ _ _

theorem sameFrame_abandoned_of_open (inFrame : s.phase ≠ .idle) : SameFrame (withEmptyFrame s) (abandoned r f s) := by
  rw [abandoned_of_open inFrame]
  exact sameFrame_withEventPorts _ _ _ _ _

theorem report_openEvent : report f (openEvent s) = { openEvent s with errRpt := f } := by
  rw [report, openEvent_errRpt, joinFlags_noFlags]

/-- The shared arm of LERR and TOUT, from a start that has reported `f` and nothing else. -/
theorem abandonFrame_reported : abandonFrame r { openEvent s with errRpt := f } = .next (abandoned r f s) := by
  by_cases idle : s.phase = .idle
  · rw [abandonFrame_idle (s := { openEvent s with errRpt := f }) idle, abandoned_of_idle idle]
    rfl
  · rw [abandonFrame_open (s := { openEvent s with errRpt := f }) idle, abandoned_of_open idle]
    rfl

/-- LERR adds its flags to the empty report set, and reads neither its byte nor the watchdog (R130, R134). -/
theorem exec_lerr (f : LineFlags) (d : Byte) (s : State) :
    exec (.lerr f d) s = .next (abandoned .lineError f s) :=
  (congrArg (abandonFrame .lineError) report_openEvent).trans abandonFrame_reported

/-- TOUT reports nothing and does not read the watchdog (R138, R141). -/
theorem exec_tout (s : State) : exec .tout s = .next (abandoned .timeout noFlags s) :=
  abandonFrame_reported

end Abandoned

/-- Settles O21: in IDLE the state LERR ends in differs by the ports alone. -/
theorem lineErrorInIdleOnlyReports : Obligations.LineErrorInIdleOnlyReports := by
  unfold Obligations.LineErrorInIdleOnlyReports
  intro f d s idle
  rw [exec_lerr, abandoned_of_idle idle]

/-- Settles O22: outside IDLE the frame is emptied and discarded with LineError. -/
theorem lineErrorAbandonsFrame : Obligations.LineErrorAbandonsFrame := by
  unfold Obligations.LineErrorAbandonsFrame
  intro f d s inFrame
  rw [exec_lerr, abandoned_of_open inFrame]

/-- Settles O23: a step's report is what its input brought, and LERR and TOUT always answer. -/
theorem reportsAreExactlyTheFlags : Obligations.ReportsAreExactlyTheFlags := by
  unfold Obligations.ReportsAreExactlyTheFlags
  refine ⟨fun f d s => ?lerr, fun b s t answers => ?byte, fun s => ?tout⟩
  case lerr => exact ⟨_, exec_lerr f d s, exec_errRpt (exec_lerr f d s)⟩
  case byte => exact exec_errRpt answers
  case tout => exact ⟨_, exec_tout s, exec_errRpt (exec_tout s)⟩

/-- Settles O24: the state LERR ends in does not mention the byte. -/
theorem lineErrorByteIsDiscarded : Obligations.LineErrorByteIsDiscarded := by
  unfold Obligations.LineErrorByteIsDiscarded
  intro f d d' s
  have sameStep : exec (.lerr f d) s = exec (.lerr f d') s := (exec_lerr f d s).trans (exec_lerr f d' s).symm
  refine ⟨sameStep, _, exec_lerr f d s, abandoned_phase, sameFrame_abandoned_of_idle, fun inFrame => ?_⟩
  have emptied := sameFrame_abandoned_of_open (r := .lineError) (f := f) inFrame
  exact ⟨emptied.buf.symm, emptied.cursor.symm⟩

/-- Settles O25: in IDLE the state TOUT ends in differs by the ports alone. -/
theorem timeoutInIdleIsIgnored : Obligations.TimeoutInIdleIsIgnored := by
  unfold Obligations.TimeoutInIdleIsIgnored
  intro s idle
  rw [exec_tout, abandoned_of_idle idle]

/-- Settles O26: outside IDLE the frame is emptied and discarded with Timeout. -/
theorem timeoutAbandonsFrame : Obligations.TimeoutAbandonsFrame := by
  unfold Obligations.TimeoutAbandonsFrame
  intro s inFrame
  rw [exec_tout, abandoned_of_open inFrame]

/-- The watchdog is no frame field (R32). -/
theorem SameFrame.of_watchdog {s t : State} {armed : Bool} {count : Option Nat}
    (same : SameFrame { s with wdArmed := armed, wdCount := count } t) : SameFrame s t :=
  ⟨same.cfg, same.phase, same.buf, same.cursor, same.lenHi, same.declLen, same.remaining, same.csum⟩

/-- Settles O27: whatever the watchdog holds is kept, and the phase alone decides the rest. -/
theorem staleTimeoutIsNotFiltered : Obligations.StaleTimeoutIsNotFiltered := by
  unfold Obligations.StaleTimeoutIsNotFiltered
  intro s armed count
  have step := exec_tout { s with wdArmed := armed, wdCount := count }
  refine ⟨_, step, abandoned_wdArmed, abandoned_wdCount, abandoned_outcome, exec_errRpt step, ?idle, ?inFrame⟩
  case idle =>
    exact fun idle => .of_watchdog (armed := armed) (count := count) (sameFrame_abandoned_of_idle idle)
  case inFrame =>
    intro inFrame
    refine .of_watchdog (armed := armed) (count := count) ?_
    exact sameFrame_abandoned_of_open (s := { s with wdArmed := armed, wdCount := count }) inFrame

end Sys2Proof.Machine
end

section
/-! SUPPORT. The watchdog beside an event step (spec/42_watchdog.md R151, R152): what each input does to the watchdog's
fields and to the queue its expiry posts to, and nothing of the frame. -/

namespace Sys2Proof.Machine

/-- Two states with the same watchdog, its two signals, its period, and the queue it posts to; the frame and the outputs
may differ. -/
structure SameWatchdog (s t : State) : Prop where
  cfg      : s.cfg = t.cfg
  wdArmed  : s.wdArmed = t.wdArmed
  wdCount  : s.wdCount = t.wdCount
  wdExpire : s.wdExpire = t.wdExpire
  arm      : s.arm = t.arm
  queue    : s.queue = t.queue

/-- `s` with Arm() called, or not (R151). -/
def armedIf (arms : Bool) (s : State) : State := if arms then armWatchdog s else s

@[simp] theorem armedIf_true (s : State) : armedIf true s = armWatchdog s := rfl

@[simp] theorem armedIf_false (s : State) : armedIf false s = s := rfl

section Arms

variable {b : Byte} {s t : State}

theorem byteDelimiter_arms (h : byteDelimiter s = .next t) : SameWatchdog (armWatchdog s) t := by
  obtain ⟨u, appended, rest⟩ := andThen_eq_next.1 h
  obtain ⟨-, rfl⟩ := bufAppend_eq_next.1 appended
  cases rest
  constructor <;> rfl

theorem byteNoise_keeps_watchdog (h : byteNoise s = .next t) : SameWatchdog s t := by
  cases h
  constructor <;> rfl

theorem byteLengthHigh_arms (h : byteLengthHigh b s = .next t) : SameWatchdog (armWatchdog s) t := by
  obtain ⟨u, appended, rest⟩ := andThen_eq_next.1 h
  obtain ⟨-, rfl⟩ := bufAppend_eq_next.1 appended
  cases rest
  constructor <;> rfl

/-- The length-low byte arms where the frame fits (R106, R107). -/
theorem byteLengthLow_armedIf (h : byteLengthLow b s = .next t) :
    ∃ hi, s.lenHi = some hi
      ∧ SameWatchdog (armedIf (decide (hi.toNat * 256 + b.toNat + 4 ≤ s.cfg.bufCap)) s) t := by
  obtain ⟨u, appended, rest⟩ := andThen_eq_next.1 h
  obtain ⟨-, rfl⟩ := bufAppend_eq_next.1 appended
  obtain ⟨hi, high, rest⟩ := andThen_eq_next.1 rest
  refine ⟨hi, readField_eq_next.1 high, ?_⟩
  simp only [overflows_eq, declaredLength_toNat, decide_eq_true_eq] at rest
  split at rest
  · next tooLong =>
    rw [decide_eq_false (Nat.not_le.2 tooLong), armedIf_false]
    cases rest
    constructor <;> rfl
  · next fits =>
    rw [decide_eq_true (Nat.le_of_not_lt fits), armedIf_true]
    cases rest
    constructor <;> rfl

theorem bytePayload_arms {n : BitVec 16} (h : bytePayload b n s = .next t) : SameWatchdog (armWatchdog s) t := by
  obtain ⟨u, appended, rest⟩ := andThen_eq_next.1 h
  obtain ⟨-, rfl⟩ := bufAppend_eq_next.1 appended
  obtain ⟨sum, -, rest⟩ := andThen_eq_next.1 rest
  cases rest
  constructor <;> rfl

theorem frameComplete_keeps_watchdog (h : frameComplete s = .next t) : SameWatchdog s t := by
  obtain ⟨len, -, rest⟩ := andThen_eq_next.1 h
  obtain ⟨p, -, rest⟩ := andThen_eq_next.1 rest
  cases rest
  constructor <;> rfl

/-- Neither end of a frame arms (R111, R112). -/
theorem byteChecksum_keeps_watchdog (h : byteChecksum b s = .next t) : SameWatchdog s t := by
  obtain ⟨u, appended, rest⟩ := andThen_eq_next.1 h
  obtain ⟨-, rfl⟩ := bufAppend_eq_next.1 appended
  obtain ⟨sum, -, rest⟩ := andThen_eq_next.1 rest
  split at rest
  · exact { frameComplete_keeps_watchdog rest with }
  · cases rest
    constructor <;> rfl

/-- A BYTE arms as the table of R152 says, phase by phase. -/
theorem exec_byte_armedIf (h : exec (.byte b) s = .next t) :
    SameWatchdog (armedIf (armsTable s (.byte b)) (openEvent s)) t := by
  cases phase : s.phase with
  | idle =>
    rw [exec_byte_idle phase] at h
    split at h
    · next start =>
      rw [show armsTable s (.byte b) = true by simp [armsTable, phase, start]]
      exact byteDelimiter_arms h
    · next noise =>
      rw [show armsTable s (.byte b) = false by simp [armsTable, phase, noise]]
      exact byteNoise_keeps_watchdog h
  | lenHi =>
    rw [exec_byte_lenHi phase] at h
    rw [show armsTable s (.byte b) = true by simp [armsTable, phase]]
    exact byteLengthHigh_arms h
  | lenLo =>
    rw [exec_byte_lenLo phase] at h
    obtain ⟨hi, high, same⟩ := byteLengthLow_armedIf h
    rw [openEvent_lenHi] at high
    rw [show armsTable s (.byte b) = decide (hi.toNat * 256 + b.toNat + 4 ≤ s.cfg.bufCap) by
      simp only [armsTable, phase, high]]
    exact same
  | body =>
    rw [exec_byte_body phase] at h
    obtain ⟨n, left, rest⟩ := andThen_eq_next.1 h
    rw [readField_eq_next] at left
    split at rest
    · next none_left =>
      rw [show armsTable s (.byte b) = false by simp [armsTable, phase, left, none_left]]
      exact byteChecksum_keeps_watchdog rest
    · next more =>
      rw [show armsTable s (.byte b) = true by simpa [armsTable, phase, left] using more]
      exact bytePayload_arms rest

/-- The state a LERR or a TOUT ends in has the watchdog the step began with (R142, R152). -/
theorem abandoned_keeps_watchdog (r : DiscardReason) (f : LineFlags) (s : State) :
    SameWatchdog (openEvent s) (abandoned r f s) := by
  by_cases idle : s.phase = .idle
  · rw [abandoned_of_idle idle]
    constructor <;> rfl
  · rw [abandoned_of_open idle]
    constructor <;> rfl

theorem execReserved_keeps_watchdog {w : EventWord} (h : execReserved w s = .next t) :
    SameWatchdog (openEvent s) t := by
  unfold execReserved at h
  split at h <;> cases h
  constructor <;> rfl

/-- What every event step does to the watchdog: Arm() where the table of R152 says so, nothing elsewhere. -/
theorem exec_event_armedIf {i : Instr} (event : isEvent i = true) (h : exec i s = .next t) :
    SameWatchdog (armedIf (armsTable s i) (openEvent s)) t := by
  cases i with
  | byte b => exact exec_byte_armedIf h
  | lerr f d =>
    cases (exec_lerr f d s).symm.trans h
    exact abandoned_keeps_watchdog .lineError f s
  | tout =>
    cases (exec_tout s).symm.trans h
    exact abandoned_keeps_watchdog .timeout noFlags s
  | tick | reset => cases event
  | reserved w => exact execReserved_keeps_watchdog h

/-- The arm signal of an event step is the table's entry. -/
theorem exec_event_arm {i : Instr} (event : isEvent i = true) (h : exec i s = .next t) : t.arm = armsTable s i := by
  rw [← (exec_event_armedIf event h).arm]
  cases armsTable s i <;> rfl

/-- A step of the table leaves the full count. -/
theorem exec_event_of_arms {i : Instr} (event : isEvent i = true) (h : exec i s = .next t)
    (arms : armsTable s i = true) : SameWatchdog (armWatchdog (openEvent s)) t := by
  simpa only [arms, armedIf_true] using exec_event_armedIf event h

/-- An event step outside the table leaves the watchdog as it is. -/
theorem exec_event_of_not_arms {i : Instr} (event : isEvent i = true) (h : exec i s = .next t)
    (arms : armsTable s i = false) : SameWatchdog (openEvent s) t := by
  simpa only [arms, armedIf_false] using exec_event_armedIf event h

/-- No event step disarms the watchdog (R158). -/
theorem exec_event_keeps_armed {i : Instr} (event : isEvent i = true) (h : exec i s = .next t)
    (armed : s.wdArmed = true) : t.wdArmed = true := by
  cases arms : armsTable s i with
  | true => exact (exec_event_of_arms event h arms).wdArmed.symm
  | false => exact (exec_event_of_not_arms event h arms).wdArmed.symm.trans armed

end Arms

/-- Settles O32: the entry of the table decides between the two cases. -/
theorem armsExactlyAsListed : Obligations.ArmsExactlyAsListed := by
  unfold Obligations.ArmsExactlyAsListed
  intro i s t event h
  refine ⟨exec_event_arm event h, fun arms => ?armed, fun arms => ?kept⟩
  case armed =>
    have same := exec_event_of_arms event h arms
    exact ⟨same.wdArmed.symm, same.wdCount.symm⟩
  case kept =>
    have same := exec_event_of_not_arms event h arms
    exact ⟨same.wdArmed.symm, same.wdCount.symm⟩

end Sys2Proof.Machine
end

section
/-! SUPPORT. The tick of the timebase (spec/42_watchdog.md R153 to R158), alone in its clock and beside an event. -/

namespace Sys2Proof.Machine

/-- The decoder yields event inputs alone: TICK and RESET are ports (R86). -/
theorem isEvent_decode (w : EventWord) : isEvent (decode w) = true := by
  unfold decode
  split_ifs <;> rfl

section Tick

variable {s t : State}

/-- TICK is one tick at the watchdog, from the ports of a clock without event. -/
theorem exec_tick (s : State) : exec .tick s = tickWatchdog (withQuietPorts false s) := rfl

/-- A tick disarms the watchdog only as its expiry (R155). -/
theorem tickWatchdog_disarms (h : tickWatchdog s = .next t) (armed : s.wdArmed = true) (disarmed : t.wdArmed = false) :
    s.wdCount = some 1 ∧ t = expire s := by
  obtain ⟨idle, -⟩ | ⟨n, -, -, -, rfl⟩ | ⟨-, last, rfl⟩ := tickWatchdog_eq_next.1 h
  · exact nomatch armed.symm.trans idle
  · exact nomatch armed.symm.trans disarmed
  · exact ⟨last, rfl⟩

/-- A tick of the clock of an Arm() is not counted (R156). -/
theorem tickAfterEvent_of_arm (arm : s.arm = true) : tickAfterEvent s = .next s := if_pos arm

/-- The tick of a clock that consumed an event disarms only as the expiry, and no Arm() was called (R155, R156). -/
theorem tickAfterEvent_disarms (h : tickAfterEvent s = .next t) (armed : s.wdArmed = true)
    (disarmed : t.wdArmed = false) : s.arm = false ∧ s.wdCount = some 1 ∧ t = expire s := by
  unfold tickAfterEvent at h
  split at h
  · cases h
    exact nomatch armed.symm.trans disarmed
  · next quiet => exact ⟨Bool.eq_false_of_not_eq_true quiet, tickWatchdog_disarms h armed disarmed⟩

/-- A clock that consumes an event disarms only where it also ticks and that tick is the expiry. -/
theorem consume_disarms {w : EventWord} {tick : Bool} (h : consume w tick s = .next t) (armed : s.wdArmed = true)
    (disarmed : t.wdArmed = false) : s.wdCount = some 1 ∧ ∃ u, t = expire u := by
  obtain ⟨u, event, rest⟩ := andThen_eq_next.1 h
  have stillArmed := exec_event_keeps_armed (isEvent_decode w) event armed
  split at rest
  · obtain ⟨quiet, last, rfl⟩ := tickAfterEvent_disarms rest stillArmed disarmed
    have listed := (exec_event_arm (isEvent_decode w) event).symm.trans quiet
    exact ⟨(exec_event_of_not_arms (isEvent_decode w) event listed).wdCount.trans last, u, rfl⟩
  · cases rest
    exact nomatch stillArmed.symm.trans disarmed

/-- A clock without event disarms only where it ticks and that tick is the expiry. -/
theorem clockNoEvent_disarms {tick : Bool} (h : clockNoEvent tick s = .next t) (armed : s.wdArmed = true)
    (disarmed : t.wdArmed = false) : s.wdCount = some 1 ∧ ∃ u, t = expire u := by
  unfold clockNoEvent at h
  split at h
  · rw [exec_tick] at h
    obtain ⟨last, rfl⟩ := tickWatchdog_disarms h armed disarmed
    exact ⟨last, _, rfl⟩
  · cases h
    exact nomatch armed.symm.trans disarmed

/-- The step of a clock that offers the head of the queue. -/
theorem step_consume {w : EventWord} {q : List EventWord} {tick : Bool} {rest : List Move} (queue : s.queue = w :: q)
    (schedule : s.schedule = .clock false true tick :: rest) :
    step s = consume w tick { beginStep rest s with queue := q } := by
  have offered : (beginStep rest s).queue = w :: q := queue
  simp only [step, systemStep, schedule, takeMove, clockStep, offered, Bool.false_eq_true, if_false, if_true]

end Tick

/-- Settles O28: the disarmed arm of the tick. -/
theorem tickWhileDisarmed : Obligations.TickWhileDisarmed := by
  unfold Obligations.TickWhileDisarmed
  intro s disarmed
  rw [exec_tick]
  exact tickWatchdog_eq_next.2 (.inl ⟨disarmed, rfl⟩)

/-- Settles O29: the counting arm of the tick. -/
theorem tickCountsDown : Obligations.TickCountsDown := by
  unfold Obligations.TickCountsDown
  intro n s armed count more
  rw [exec_tick]
  exact tickWatchdog_eq_next.2 (.inr (.inl ⟨n, armed, count, more, rfl⟩))

/-- Settles O30: the expiring arm of the tick. -/
theorem tickExpires : Obligations.TickExpires := by
  unfold Obligations.TickExpires
  intro s armed last
  rw [exec_tick]
  exact tickWatchdog_eq_next.2 (.inr (.inr ⟨armed, last, rfl⟩))

/-- Settles O31: both clocks consume the same word from the same state, and the arm signal stops the tick of the
second. -/
theorem armBeatsTick : Obligations.ArmBeatsTick := by
  unfold Obligations.ArmBeatsTick
  intro s t w q rest queue first arm
  rw [step_consume (s := { s with schedule := .clock false true false :: rest }) queue rfl] at first
  obtain ⟨u, event, last⟩ := andThen_eq_next.1 first
  cases last
  have listed := (exec_event_arm (isEvent_decode w) event).symm.trans arm
  have same := exec_event_of_arms (isEvent_decode w) event listed
  refine ⟨?step, same.wdArmed.symm, same.wdCount.symm, same.wdExpire.symm, same.queue.symm⟩
  rw [step_consume (s := { s with schedule := .clock false true true :: rest }) queue rfl]
  exact andThen_eq_next.2 ⟨t, event, tickAfterEvent_of_arm arm⟩

/-- Settles O33: of the moves only a reset clock and a clock with a tick can disarm, and the tick only as the expiry. -/
theorem onlyExpiryAndResetDisarm : Obligations.OnlyExpiryAndResetDisarm := by
  unfold Obligations.OnlyExpiryAndResetDisarm
  intro s t h armed disarmed
  have kept : t.wdArmed ≠ s.wdArmed := by simp [armed, disarmed]
  obtain ⟨-, rfl⟩ | ⟨v, f, rest, -, move⟩ | ⟨o, k, rest, schedule, -⟩ | ⟨w, q, k, rest, -, -, move⟩
    | ⟨o, k, rest, -, -, move⟩ := step_eq_next.1 h
  · exact absurd rfl kept
  · cases move
    exact absurd rfl kept
  · exact .inl ⟨o, k, rest, schedule⟩
  · obtain ⟨last, u, rfl⟩ := consume_disarms move armed disarmed
    exact .inr ⟨rfl, last, u.queue, rfl⟩
  · obtain ⟨last, u, rfl⟩ := clockNoEvent_disarms move armed disarmed
    exact .inr ⟨rfl, last, u.queue, rfl⟩

end Sys2Proof.Machine
end

section
/-! SUPPORT. The event word of a received byte and its flags (spec/43_interface_and_step.md R174): the two forms as
numbers, and what each decodes to. -/

namespace Sys2Proof

/-- The BYTE form has nothing above DATA (R78). -/
theorem packWord_byte_form (d : Byte) : packWord 0#2 0#2 0#4 d = d.setWidth 16 := by
  apply BitVec.eq_of_getLsbD_eq
  intro i hi
  simp only [packWord, BitVec.getLsbD_append, BitVec.getLsbD_setWidth]
  interval_cases i <;> simp

/-- The LERR form as `0x4000 | (flags << 8) | value` (R79, R174). -/
theorem packWord_lerr_form (f : BitVec 4) (d : Byte) :
    packWord 1#2 0#2 f d = 0x4000#16 ||| (f.setWidth 16 <<< 8) ||| d.setWidth 16 := by
  apply BitVec.eq_of_getLsbD_eq
  intro i hi
  simp only [packWord, BitVec.getLsbD_append, BitVec.getLsbD_or, BitVec.getLsbD_shiftLeft, BitVec.getLsbD_setWidth]
  interval_cases i <;> simp

namespace Machine

/-- A set with no flag is the empty set. -/
theorem any_eq_false_iff {f : LineFlags} : f.any = false ↔ f = noFlags := by
  obtain ⟨a, b, c, d⟩ := f
  revert a b c d
  decide

theorem bitsOfFlags_ne_zero {f : LineFlags} (some_flag : f ≠ noFlags) : bitsOfFlags f ≠ 0#4 :=
  fun zero => some_flag (any_eq_false_iff.1 ((bitsOfFlags_eq_zero f).1 zero))

theorem handleByteWord_noFlags (v : Byte) : handleByteWord v noFlags = packWord 0#2 0#2 0#4 v := rfl

theorem handleByteWord_of_flags {f : LineFlags} (v : Byte) (some_flag : f ≠ noFlags) :
    handleByteWord v f = packWord 1#2 0#2 (bitsOfFlags f) v :=
  if_pos (Bool.eq_true_of_not_eq_false (mt any_eq_false_iff.1 some_flag))

/-- Settles O6: each form as a number and through the decoder. -/
theorem handleByteSplitsOnFlags : Obligations.HandleByteSplitsOnFlags := by
  unfold Obligations.HandleByteSplitsOnFlags
  intro v f
  constructor
  case left =>
    rintro rfl
    rw [handleByteWord_noFlags]
    exact ⟨packWord_byte_form v, decode_byte_form v⟩
  case right =>
    intro some_flag
    have decoded := decode_lerr_form v (bitsOfFlags_ne_zero some_flag)
    rw [flagsOfBits_bitsOfFlags] at decoded
    rw [handleByteWord_of_flags v some_flag]
    exact ⟨decoded, packWord_lerr_form (bitsOfFlags f) v⟩

end Machine
end Sys2Proof
end

section
/-! SUPPORT. The outcome of a step (spec/43_interface_and_step.md R170 to R172): every arm of an event ends in an emit, and
no port input does. -/

namespace Sys2Proof.Machine

/-- Where it answers, it has emitted an outcome, with `evt_ready` high. -/
def Emits (o : Result) : Prop := ∀ t, o = .next t → outValid t = true ∧ t.evtReady = true

section Emitting

variable {b : Byte} {s t : State}

theorem emits_emit {o : FrameOutcome} (ready : s.evtReady = true) : Emits (.next (emit o s)) := by
  rintro t ⟨⟩
  exact ⟨rfl, ready⟩

theorem emits_andThen {α : Type} {o : Host.Outcome α Fault Refusal} {k : α → Result} (rest : ∀ a, Emits (k a)) :
    Emits (andThen o k) := by
  intro t h
  obtain ⟨a, -, h⟩ := andThen_eq_next.1 h
  exact rest a t h

theorem emits_append {k : State → Result} (ready : s.evtReady = true)
    (rest : ∀ u, u.evtReady = true → Emits (k u)) : Emits (andThen (bufAppend b s) k) := by
  intro t h
  obtain ⟨u, appended, h⟩ := andThen_eq_next.1 h
  obtain ⟨-, rfl⟩ := bufAppend_eq_next.1 appended
  refine rest _ ?_ t h
  exact ready

theorem emits_byteDelimiter (ready : s.evtReady = true) : Emits (byteDelimiter s) :=
  emits_append (s := bufReset s) ready fun _ ready => emits_emit ready

theorem emits_byteLengthHigh (ready : s.evtReady = true) : Emits (byteLengthHigh b s) :=
  emits_append (s := { s with lenHi := some b }) ready fun _ ready => emits_emit ready

theorem emits_byteLengthLow (ready : s.evtReady = true) : Emits (byteLengthLow b s) := by
  refine emits_append ready fun u ready => emits_andThen fun hi => ?_
  split
  · exact emits_emit ready
  · exact emits_emit ready

theorem emits_bytePayload {n : BitVec 16} (ready : s.evtReady = true) : Emits (bytePayload b n s) :=
  emits_append ready fun _ ready => emits_andThen fun _ => emits_emit ready

theorem emits_frameComplete (ready : s.evtReady = true) : Emits (frameComplete s) :=
  emits_andThen fun _ => emits_andThen fun _ => emits_emit ready

theorem emits_byteChecksum (ready : s.evtReady = true) : Emits (byteChecksum b s) := by
  refine emits_append ready fun u ready => emits_andThen fun sum => ?_
  split
  · exact emits_frameComplete ready
  · exact emits_emit ready

/-- BYTE emits in every phase (R100). -/
theorem emits_exec_byte (b : Byte) (s : State) : Emits (exec (.byte b) s) := by
  have ready := openEvent_evtReady s
  cases phase : s.phase with
  | idle =>
    rw [exec_byte_idle phase]
    split
    · exact emits_byteDelimiter ready
    · exact emits_emit ready
  | lenHi =>
    rw [exec_byte_lenHi phase]
    exact emits_byteLengthHigh ready
  | lenLo =>
    rw [exec_byte_lenLo phase]
    exact emits_byteLengthLow ready
  | body =>
    rw [exec_byte_body phase]
    refine emits_andThen fun n => ?_
    split
    · exact emits_byteChecksum ready
    · exact emits_bytePayload ready

theorem emits_abandonFrame {r : DiscardReason} (ready : s.evtReady = true) : Emits (abandonFrame r s) := by
  by_cases idle : s.phase = .idle
  · rw [abandonFrame_idle idle]
    exact emits_emit ready
  · rw [abandonFrame_open idle]
    exact emits_emit ready

theorem emits_execReserved (w : EventWord) (s : State) : Emits (execReserved w s) := by
  unfold execReserved
  split
  · exact emits_emit (openEvent_evtReady s)
  · rintro t ⟨⟩

/-- Every event input emits (R172). -/
theorem emits_exec_event {i : Instr} (event : isEvent i = true) : Emits (exec i s) := by
  cases i with
  | byte b => exact emits_exec_byte b s
  | lerr f d => exact emits_abandonFrame (s := report f (openEvent s)) (openEvent_evtReady s)
  | tout => exact emits_abandonFrame (openEvent_evtReady s)
  | tick | reset => cases event
  | reserved w => exact emits_execReserved w s

/-- No event step pulses `wd_expire`: that is the tick's alone (R155). -/
theorem exec_event_wdExpire {i : Instr} (event : isEvent i = true) (h : exec i s = .next t) : t.wdExpire = false := by
  rw [← (exec_event_armedIf event h).wdExpire]
  cases armsTable s i <;> rfl

theorem tickWatchdog_keeps_outcome (h : tickWatchdog s = .next t) : t.outcome = s.outcome := by
  obtain ⟨-, rfl⟩ | ⟨n, -, -, -, rfl⟩ | ⟨-, -, rfl⟩ := tickWatchdog_eq_next.1 h <;> rfl

end Emitting

/-- Settles O56: every event input emits, and the clock of a port input opens with no outcome and adds none. -/
theorem oneOutcomePerEvent : Obligations.OneOutcomePerEvent := by
  unfold Obligations.OneOutcomePerEvent
  refine ⟨fun i s t event h => ?event, fun s t port => ?port⟩
  case event =>
    obtain ⟨valid, ready⟩ := emits_exec_event event t h
    exact ⟨valid, ready, exec_event_wdExpire event h⟩
  case port =>
    obtain tick | reset := port
    · rw [exec_tick] at tick
      rw [outValid, tickWatchdog_keeps_outcome tick]
      rfl
    · cases reset
      rfl

end Sys2Proof.Machine
end

section
/-! SUPPORT. The reserved patterns of R81's table, field by field, and what the decoder calls reserved. -/

namespace Sys2Proof

section Masks

variable (k r : BitVec 2) (f : BitVec 4) (d : Byte)

/-- The mask `0xC000` of R81's table keeps KIND. -/
theorem packWord_and_kindMask : packWord k r f d &&& 0xC000#16 = packWord k 0#2 0#4 0#8 := by
  have fields := packWord_and k (BitVec.allOnes 2) r 0#2 f 0#4 d 0#8
  simp only [BitVec.and_allOnes, BitVec.and_zero] at fields
  exact fields

/-- The mask `0x3000` of R81's table keeps RSV. -/
theorem packWord_and_rsvMask : packWord k r f d &&& 0x3000#16 = packWord 0#2 r 0#4 0#8 := by
  have fields := packWord_and k 0#2 r (BitVec.allOnes 2) f 0#4 d 0#8
  simp only [BitVec.and_allOnes, BitVec.and_zero] at fields
  exact fields

/-- The mask `0x3FFF` of R81's table keeps everything but KIND. -/
theorem packWord_and_operandMask : packWord k r f d &&& 0x3FFF#16 = packWord 0#2 r f d := by
  have fields := packWord_and k 0#2 r (BitVec.allOnes 2) f (BitVec.allOnes 4) d (BitVec.allOnes 8)
  simp only [BitVec.and_allOnes, BitVec.and_zero] at fields
  exact fields

variable {k r f d}

theorem kind_masked_eq_iff {k' : BitVec 2} :
    packWord k r f d &&& 0xC000#16 = packWord k' 0#2 0#4 0#8 ↔ k = k' := by
  rw [packWord_and_kindMask, packWord_inj]
  simp only [and_true]

theorem rsv_masked_eq_zero : packWord k r f d &&& 0x3000#16 = 0#16 ↔ r = 0#2 := by
  rw [packWord_and_rsvMask, show 0#16 = packWord 0#2 0#2 0#4 0#8 from rfl, packWord_inj]
  simp only [and_true, true_and]

theorem operands_masked_eq_zero : packWord k r f d &&& 0x3FFF#16 = 0#16 ↔ r = 0#2 ∧ f = 0#4 ∧ d = 0#8 := by
  rw [packWord_and_operandMask, show 0#16 = packWord 0#2 0#2 0#4 0#8 from rfl, packWord_inj]
  simp only [true_and]

/-- R81's table as conditions on the fields. -/
theorem reservedPattern_packWord :
    reservedPattern (packWord k r f d) = true ↔
      k = 3#2 ∨ (r ≠ 0#2 ∧ k ≠ 3#2) ∨ (k = 0#2 ∧ f ≠ 0#4) ∨ (k = 1#2 ∧ f = 0#4)
        ∨ (k = 2#2 ∧ ¬(r = 0#2 ∧ f = 0#4 ∧ d = 0#8)) := by
  have byteKind := kind_masked_eq_iff (k := k) (r := r) (f := f) (d := d) (k' := 0#2)
  have lerrKind := kind_masked_eq_iff (k := k) (r := r) (f := f) (d := d) (k' := 1#2)
  have toutKind := kind_masked_eq_iff (k := k) (r := r) (f := f) (d := d) (k' := 2#2)
  have lastKind := kind_masked_eq_iff (k := k) (r := r) (f := f) (d := d) (k' := 3#2)
  rw [show packWord 0#2 0#2 0#4 0#8 = 0x0000#16 from rfl] at byteKind
  rw [show packWord 1#2 0#2 0#4 0#8 = 0x4000#16 from rfl] at lerrKind
  rw [show packWord 2#2 0#2 0#4 0#8 = 0x8000#16 from rfl] at toutKind
  rw [show packWord 3#2 0#2 0#4 0#8 = 0xC000#16 from rfl] at lastKind
  simp only [reservedPattern, Bool.or_eq_true, Bool.and_eq_true, beq_iff_eq, bne_iff_ne, ne_eq, byteKind, lerrKind,
    toutKind, lastKind, rsv_masked_eq_zero, flags_masked_eq_zero, operands_masked_eq_zero, or_assoc]

end Masks

/-- KIND has four values. -/
theorem kind_eq_three {k : BitVec 2} (not_byte : k ≠ 0#2) (not_lerr : k ≠ 1#2) (not_tout : k ≠ 2#2) : k = 3#2 := by
  bv_omega

/-- A word the decoder calls reserved is one of R81's table. -/
theorem reservedPattern_of_decode {w w' : EventWord} (h : decode w = .reserved w') : reservedPattern w = true := by
  obtain ⟨k, r, f, d, rfl⟩ := exists_packWord w
  rw [reservedPattern_packWord]
  rw [decode_packWord] at h
  by_cases last : k = 3#2
  · exact .inl last
  by_cases rsv : r = 0#2
  case neg => exact .inr (.inl ⟨rsv, last⟩)
  rw [if_neg (not_not.2 rsv)] at h
  split_ifs at h with kind_byte no_flag kind_lerr some_flag kind_tout empty
  · exact .inr (.inr (.inl ⟨kind_byte, no_flag⟩))
  · exact .inr (.inr (.inr (.inl ⟨kind_lerr, not_not.1 some_flag⟩)))
  · exact .inr (.inr (.inr (.inr ⟨kind_tout, fun fields => empty fields.2⟩)))
  · exact .inl (kind_eq_three kind_byte kind_lerr kind_tout)

end Sys2Proof
end

section
/-! SUPPORT. The block never stops (spec/43_interface_and_step.md R185): from a good state every input, and so every move
of the environment, answers a good state. -/

namespace Sys2Proof.Machine

/-- It answers a next state, and that is a good one. -/
def EndsInInv (o : Result) : Prop := ∃ t, o = .next t ∧ t.Inv

theorem endsInInv_andThen {o : Result} {k : State → Result} (first : EndsInInv o)
    (rest : ∀ t, t.Inv → EndsInInv (k t)) : EndsInInv (andThen o k) := by
  obtain ⟨t, rfl, inv⟩ := first
  exact rest t inv

/-! ### Updates that leave a good state -/

/-- The invariant does not speak of the environment. -/
theorem inv_environment {s : State} (inv : s.Inv) (q : List EventWord) (moves : List Move) (n : Nat) :
    State.Inv { s with queue := q, schedule := moves, freeCount := n } where
  params := inv.params
  frame := frameInv_congr (by constructor <;> rfl) inv.frame
  watchdog := inv.watchdog
  window := inv.window

/-- A clock without event shows no outcome and keeps the window. -/
theorem inv_openClock {s : State} (inv : s.Inv) : (openClock s).Inv where
  params := inv.params
  frame := frameInv_congr (by constructor <;> rfl) inv.frame
  watchdog := inv.watchdog
  window := ⟨inv.window.1, fun _ h => (nomatch h)⟩

/-- A step on an event leaves a good state where the frame and the watchdog are good and the window opens on a payload
that fits, for a FrameComplete. -/
theorem inv_withEventPorts {s : State} {o : FrameOutcome} {f : LineFlags} {a : Bool} {w : Option (List Byte)}
    (params : s.cfg.wf) (frame : FrameInv s) (watchdog : WatchdogInv s)
    (fits : ∀ p, w = some p → p.length + overhead ≤ s.cfg.bufCap) (opens : ∀ p, o = .frameComplete p → w = some p) :
    (withEventPorts o f a w s).Inv where
  params := params
  frame := frameInv_congr (sameFrame_withEventPorts o f a w s) frame
  watchdog := watchdog
  window := ⟨fits, fun p complete => opens p (Option.some.inj complete)⟩

/-- Continue from a step that changes no field. -/
theorem inv_continue {s : State} (inv : s.Inv) (f : LineFlags) :
    (withEventPorts .continue_ f false none s).Inv :=
  inv_withEventPorts inv.params inv.frame inv.watchdog (fun _ h => (nomatch h)) fun _ h => (nomatch h)

theorem frameInv_withEmptyFrame (s : State) : FrameInv (withEmptyFrame s) :=
  (frameInv_idle rfl).2 ⟨rfl, rfl, rfl, rfl, rfl, rfl⟩

/-- A discarded frame leaves the IDLE row of R30, with the watchdog as it was. -/
theorem inv_discarded {s : State} (inv : s.Inv) (r : DiscardReason) (f : LineFlags) :
    (withEventPorts (.frameDiscarded r) f false none (withEmptyFrame s)).Inv :=
  inv_withEventPorts inv.params (frameInv_withEmptyFrame s) inv.watchdog (fun _ h => (nomatch h))
    fun _ h => (nomatch h)

/-- A completed frame leaves the IDLE row of R30, with the window on a payload that fits. -/
theorem inv_completed {s : State} (inv : s.Inv) {p : List Byte} (fits : p.length + overhead ≤ s.cfg.bufCap) :
    (withEventPorts (.frameComplete p) noFlags false (some p) (withEmptyFrame s)).Inv := by
  refine inv_withEventPorts inv.params (frameInv_withEmptyFrame s) inv.watchdog ?fits ?opens
  case fits =>
    rintro _ ⟨⟩
    exact fits
  case opens =>
    rintro _ ⟨⟩
    rfl

theorem inv_abandoned {s : State} (inv : s.Inv) (r : DiscardReason) (f : LineFlags) : (abandoned r f s).Inv := by
  by_cases idle : s.phase = .idle
  · rw [abandoned_of_idle idle]
    exact inv_continue inv f
  · rw [abandoned_of_open idle]
    exact inv_discarded inv r f

/-- Legal parameters make a good reset state (R41). -/
theorem inv_resetWith {p : Params} (params : p.wf) : (State.resetWith p).Inv where
  params := params
  frame := (frameInv_idle rfl).2 ⟨rfl, rfl, rfl, rfl, rfl, rfl⟩
  watchdog := watchdogInv_iff.2 (.inl ⟨rfl, rfl⟩)
  window := ⟨fun _ h => (nomatch h), fun _ h => (nomatch h)⟩

/-- A watchdog update leaves a good state where it leaves a good watchdog. -/
theorem inv_watchdog {s : State} (inv : s.Inv) {armed : Bool} {count : Option Nat}
    (watchdog : WatchdogInv { s with wdArmed := armed, wdCount := count }) :
    State.Inv { s with wdArmed := armed, wdCount := count } where
  params := inv.params
  frame := frameInv_congr (by constructor <;> rfl) inv.frame
  watchdog := watchdog
  window := inv.window

/-! ### The inputs -/

section Inputs

variable {s : State}

theorem exec_byte_idle_endsInInv (inv : s.Inv) (phase : s.phase = .idle) (b : Byte) :
    EndsInInv (exec (.byte b) s) := by
  by_cases start : b = delim
  · obtain ⟨t, step, -, inv', -⟩ := delimiter_enters_lenHi inv phase
    exact ⟨t, start ▸ step, inv'⟩
  · exact ⟨_, idleByteIsNoise b s phase start, inv_continue inv noFlags⟩

theorem exec_byte_lenHi_endsInInv (inv : s.Inv) (phase : s.phase = .lenHi) (b : Byte) :
    EndsInInv (exec (.byte b) s) := by
  obtain ⟨t, step, -, inv', -⟩ := lengthHigh_enters_lenLo inv phase b
  exact ⟨t, step, inv'⟩

theorem exec_byte_lenLo_endsInInv (inv : s.Inv) (phase : s.phase = .lenLo) (b : Byte) :
    EndsInInv (exec (.byte b) s) := by
  obtain ⟨hi, high, -⟩ := (frameInv_lenLo phase).1 inv.frame
  by_cases fits : hi.toNat * 256 + b.toNat + 4 ≤ s.cfg.bufCap
  · obtain ⟨t, step, -, inBody⟩ := lengthLow_enters_body inv phase high b fits
    exact ⟨t, step, inBody.inv⟩
  · exact ⟨_, lengthLowOverflowDiscards b hi s inv phase high (Nat.lt_of_not_le fits),
      inv_discarded inv .bufferOverflow noFlags⟩

theorem exec_byte_body_endsInInv (inv : s.Inv) (phase : s.phase = .body) (b : Byte) :
    EndsInInv (exec (.byte b) s) := by
  obtain ⟨hi, len, rem, sum, -, -, left, running, row⟩ := (frameInv_body phase).1 inv.frame
  by_cases more : rem = 0
  case neg =>
    obtain ⟨t, step, -, inBody⟩ := InBody.payloadByte ⟨inv, phase, left, running⟩ more b
    exact ⟨t, step, inBody.inv⟩
  subst more
  by_cases matching : b = expectedChecksum sum
  · obtain ⟨-, -, -, count, -, fits⟩ := row
    have size : (payloadSoFar s).length = len.toNat := count
    exact ⟨_, matching ▸ exec_byte_completes inv phase left running, inv_completed inv (size ▸ fits)⟩
  · exact ⟨_, exec_byte_mismatch inv phase left running matching, inv_discarded inv .checksumMismatch noFlags⟩

theorem exec_byte_endsInInv (inv : s.Inv) (b : Byte) : EndsInInv (exec (.byte b) s) := by
  cases phase : s.phase with
  | idle => exact exec_byte_idle_endsInInv inv phase b
  | lenHi => exact exec_byte_lenHi_endsInInv inv phase b
  | lenLo => exact exec_byte_lenLo_endsInInv inv phase b
  | body => exact exec_byte_body_endsInInv inv phase b

/-- An armed watchdog of R29 has a count to take the tick from. -/
theorem tickWatchdog_endsInInv (inv : s.Inv) : EndsInInv (tickWatchdog s) := by
  obtain ⟨disarmed, -⟩ | ⟨n, armed, count, least, greatest⟩ := watchdogInv_iff.1 inv.watchdog
  · exact ⟨s, tickWatchdog_eq_next.2 (.inl ⟨disarmed, rfl⟩), inv⟩
  obtain more | rfl := Nat.lt_or_eq_of_le least
  · refine ⟨_, tickWatchdog_eq_next.2 (.inr (.inl ⟨n, armed, count, more, rfl⟩)), ?_⟩
    have counted : WatchdogInv { s with wdCount := some (n - 1) } :=
      watchdogInv_iff.2 (.inr ⟨n - 1, armed, rfl, Nat.le_sub_one_of_lt more, (Nat.sub_le n 1).trans greatest⟩)
    exact inv_watchdog inv counted
  · have disarmed : WatchdogInv { s with wdArmed := false, wdCount := none } := watchdogInv_iff.2 (.inl ⟨rfl, rfl⟩)
    have inv' := inv_environment (inv_watchdog inv disarmed) (s.queue ++ [timeoutWord]) s.schedule s.freeCount
    refine ⟨expire s, tickWatchdog_eq_next.2 (.inr (.inr ⟨armed, count, rfl⟩)), ?_⟩
    exact { inv' with }

/-- Every input answers a good state from a good state, a reserved word where the block ignores it (R179). -/
theorem exec_endsInInv {i : Instr} (inv : s.Inv) (ignores : ∀ w, i = .reserved w → s.cfg.reserved = .ignored) :
    EndsInInv (exec i s) := by
  cases i with
  | byte b => exact exec_byte_endsInInv inv b
  | lerr f d => exact ⟨_, exec_lerr f d s, inv_abandoned inv .lineError f⟩
  | tout => exact ⟨_, exec_tout s, inv_abandoned inv .timeout noFlags⟩
  | tick => exact tickWatchdog_endsInInv (inv_openClock inv)
  | reset => exact ⟨_, rfl, inv_environment (inv_resetWith inv.params) s.queue s.schedule s.freeCount⟩
  | reserved w =>
    refine ⟨_, ?answers, inv_continue inv noFlags⟩
    simp only [exec, execReserved, ignores w rfl]
    rfl

/-! ### The moves of the environment -/

theorem clockNoEvent_endsInInv (inv : s.Inv) (tick : Bool) : EndsInInv (clockNoEvent tick s) := by
  cases tick with
  | true => exact exec_endsInInv (i := .tick) inv fun _ h => (nomatch h)
  | false => exact ⟨_, rfl, inv_openClock inv⟩

theorem tickAfterEvent_endsInInv (inv : s.Inv) : EndsInInv (tickAfterEvent s) := by
  unfold tickAfterEvent
  split
  · exact ⟨s, rfl, inv⟩
  · exact tickWatchdog_endsInInv inv

theorem consume_endsInInv {w : EventWord} (inv : s.Inv)
    (meaning : reservedPattern w = false ∨ s.cfg.reserved = .ignored) (tick : Bool) :
    EndsInInv (consume w tick s) := by
  refine endsInInv_andThen (exec_endsInInv inv fun w' reserved => ?ignores) fun t inv' => ?tick
  case ignores =>
    refine meaning.resolve_left fun listed => ?_
    exact nomatch listed.symm.trans (reservedPattern_of_decode reserved)
  case tick =>
    cases tick with
    | true => exact tickAfterEvent_endsInInv inv'
    | false => exact ⟨t, rfl, inv'⟩

theorem clockStep_endsInInv (inv : s.Inv) (meaning : CleanQueue s ∨ s.cfg.reserved = .ignored)
    (rst offer tick : Bool) : EndsInInv (clockStep rst offer tick s) := by
  unfold clockStep
  split_ifs
  · exact exec_endsInInv inv fun _ h => (nomatch h)
  · split
    · next w q queue =>
      have head : reservedPattern w = false ∨ s.cfg.reserved = .ignored :=
        meaning.imp_left fun clean => clean w (queue ▸ List.mem_cons_self)
      exact consume_endsInInv (inv_environment inv q s.schedule s.freeCount) head tick
    · exact clockNoEvent_endsInInv inv tick
  · exact clockNoEvent_endsInInv inv tick

theorem takeMove_endsInInv (inv : s.Inv) (meaning : CleanQueue s ∨ s.cfg.reserved = .ignored) (m : Move) :
    EndsInInv (takeMove m s) := by
  cases m with
  | post v f =>
    exact ⟨_, rfl, inv_environment (inv_openClock inv) (s.queue ++ [handleByteWord v f]) s.schedule s.freeCount⟩
  | clock rst offer tick => exact clockStep_endsInInv inv meaning rst offer tick

end Inputs

/-- Settles O49: the step begins by touching the environment alone, and then takes one move or none. -/
theorem blockNeverStops : Obligations.BlockNeverStops := by
  unfold Obligations.BlockNeverStops
  intro s inv meaning
  have begun (rest : List Move) : (beginStep rest s).Inv := inv_environment inv s.queue rest (s.freeCount + 1)
  unfold step systemStep
  split
  · exact ⟨_, rfl, inv_openClock (begun [])⟩
  · next m rest _ => exact takeMove_endsInInv (begun rest) meaning m

end Sys2Proof.Machine
end

section
/-! SUPPORT. The reset clock (spec/70_reset_and_hazards.md R230, R231): the input RESET on the whole state, and the step
of a clock with `rst = 1`. -/

namespace Sys2Proof.Machine

/-- The block at its reset values with the parameters of `s`, in the environment of `s` (R230, R234). -/
def resetBlock (s : State) : State :=
  { State.resetWith s.cfg with queue := s.queue, schedule := s.schedule, freeCount := s.freeCount }

/-- RESET always answers, with the parameters and the environment kept (R1, R230). -/
theorem exec_reset (s : State) : exec .reset s = .next (resetBlock s) := rfl

/-- A clock with `rst = 1` is RESET, whatever else it offers (R231). -/
theorem step_of_reset_clock {s : State} {offer tick : Bool} {rest : List Move}
    (schedule : s.schedule = .clock true offer tick :: rest) : step s = exec .reset (beginStep rest s) := by
  simp only [step, systemStep, schedule, takeMove, clockStep, if_true]

/-- Settles O37: the step is RESET once the move is taken, and RESET leaves the fields of the reset state beside the
queue of `s`. -/
theorem resetBeatsOtherInputs : Obligations.ResetBeatsOtherInputs := by
  unfold Obligations.ResetBeatsOtherInputs
  intro s offer tick rest schedule
  have answers := exec_reset (beginStep rest s)
  have stepped : step s = .next (resetBlock (beginStep rest s)) := (step_of_reset_clock schedule).trans answers
  refine ⟨resetBlock (beginStep rest s), stepped, answers, ?fields⟩
  simp [resetBlock]

end Sys2Proof.Machine
end

section
/-! SUPPORT. The decoder and the encoder against each other (spec/30_encoding.md R78 to R82). -/

namespace Sys2Proof

/-- A word of R81's table has none of the three forms, so the decoder calls it reserved. -/
theorem decode_of_reservedPattern {w : EventWord} (listed : reservedPattern w = true) : decode w = .reserved w := by
  obtain ⟨k, r, f, d, rfl⟩ := exists_packWord w
  rw [reservedPattern_packWord] at listed
  refine decode_other_form ?byte ?lerr ?tout
  case byte =>
    rintro ⟨rfl, rfl, rfl⟩
    simp at listed
  case lerr =>
    rintro ⟨⟨rfl, rfl⟩, some_flag⟩
    simp [some_flag] at listed
  case tout =>
    rintro ⟨rfl, rfl, rfl, rfl⟩
    simp at listed

namespace Machine

/-- Settles O4: each form of R78 to R80 decodes to its input, and a reserved word is its own. -/
theorem decodeAfterEncode : Obligations.DecodeAfterEncode := by
  unfold Obligations.DecodeAfterEncode
  intro i w wellFormed encoded
  cases i with
  | byte b =>
    cases encoded
    exact decode_byte_form b
  | lerr flags d =>
    cases encoded
    have some_flag : bitsOfFlags flags ≠ 0#4 := by
      rw [Ne, bitsOfFlags_eq_zero, Bool.not_eq_false]
      exact wellFormed
    rw [decode_lerr_form d some_flag, flagsOfBits_bitsOfFlags]
  | tout =>
    cases encoded
    exact decode_timeoutWord
  | tick | reset => cases encoded
  | reserved w' =>
    cases encoded
    exact decode_of_reservedPattern wellFormed

/-- Settles O3: both directions, each against the decoder on the fields of the word. -/
theorem reservedWordsAreTheListedPatterns : Obligations.ReservedWordsAreTheListedPatterns := by
  unfold Obligations.ReservedWordsAreTheListedPatterns
  exact fun w => ⟨reservedPattern_of_decode, decode_of_reservedPattern⟩

/-- Settles O5: a word has one of the three forms of R78 to R80, or it is reserved. -/
theorem encodeAfterDecode : Obligations.EncodeAfterDecode := by
  unfold Obligations.EncodeAfterDecode
  intro w
  obtain ⟨k, r, f, d, rfl⟩ := exists_packWord w
  by_cases byte : k = 0#2 ∧ r = 0#2 ∧ f = 0#4
  · obtain ⟨rfl, rfl, rfl⟩ := byte
    rw [decode_byte_form]
    exact ⟨rfl, rfl⟩
  by_cases lerr : (k = 1#2 ∧ r = 0#2) ∧ f ≠ 0#4
  · obtain ⟨⟨rfl, rfl⟩, some_flag⟩ := lerr
    rw [decode_lerr_form d some_flag]
    exact ⟨(any_flagsOfBits f).2 some_flag, by rw [encode, bitsOfFlags_flagsOfBits]⟩
  by_cases tout : k = 2#2 ∧ r = 0#2 ∧ f = 0#4 ∧ d = 0#8
  · obtain ⟨rfl, rfl, rfl, rfl⟩ := tout
    exact ⟨rfl, rfl⟩
  · have other := decode_other_form byte lerr tout
    rw [other]
    exact ⟨reservedPattern_of_decode other, rfl⟩

/-- Settles O1: each word's fields are literals, which the decoder evaluates. -/
theorem writtenWordsDecode : Obligations.WrittenWordsDecode := by
  unfold Obligations.WrittenWordsDecode
  exact ⟨rfl, rfl, rfl, rfl, rfl, rfl, rfl, rfl, rfl⟩

end Machine
end Sys2Proof
end

section
/-! SUPPORT. What every move of the environment keeps (spec/43_interface_and_step.md R182): the induction over moves and
runs once, for the invariant of R30 and for every other property that the inputs keep. -/

namespace Sys2Proof.Machine

/-- A property that every part of a move keeps: the bookkeeping of the environment, the opening of a clock, a post, the
taking of the queue's head, an input, and the tick of a clock that consumed an event. -/
structure KeptByMoves (P : State → Prop) : Prop where
  environment : ∀ s moves n, P s → P { s with schedule := moves, freeCount := n }
  ports       : ∀ s, P s → P (openClock s)
  post        : ∀ s v f, P s → P { s with queue := s.queue ++ [handleByteWord v f] }
  take        : ∀ s w q, s.queue = w :: q → P s → P { s with queue := q }
  input       : ∀ i s t, P s → exec i s = .next t → P t
  tick        : ∀ s t, P s → tickWatchdog s = .next t → P t

section Kept

variable {P : State → Prop} {s t : State}

theorem KeptByMoves.tickAfterEvent (kept : KeptByMoves P) (good : P s) (h : tickAfterEvent s = .next t) : P t := by
  unfold Machine.tickAfterEvent at h
  split at h
  · cases h
    exact good
  · exact kept.tick s t good h

theorem KeptByMoves.consume (kept : KeptByMoves P) {w : EventWord} {tick : Bool} (good : P s)
    (h : consume w tick s = .next t) : P t := by
  obtain ⟨u, event, after⟩ := andThen_eq_next.1 h
  have good' := kept.input _ s u good event
  split at after
  · exact kept.tickAfterEvent good' after
  · cases after
    exact good'

theorem KeptByMoves.clockNoEvent (kept : KeptByMoves P) {tick : Bool} (good : P s)
    (h : clockNoEvent tick s = .next t) : P t := by
  unfold Machine.clockNoEvent at h
  split at h
  · exact kept.input .tick s t good h
  · cases h
    exact kept.ports s good

/-- Every step keeps such a property. -/
theorem KeptByMoves.step (kept : KeptByMoves P) (good : P s) (h : step s = .next t) : P t := by
  have begun (rest : List Move) : P (beginStep rest s) := kept.environment s rest (s.freeCount + 1) good
  obtain ⟨-, rfl⟩ | ⟨v, f, rest, -, move⟩ | ⟨o, k, rest, -, move⟩ | ⟨w, q, k, rest, -, queue, move⟩
    | ⟨o, k, rest, -, -, move⟩ := step_eq_next.1 h
  · exact kept.ports _ (begun [])
  · cases move
    exact kept.post _ v f (kept.ports _ (begun rest))
  · exact kept.input .reset _ t (begun rest) move
  · exact kept.consume (kept.take (beginStep rest s) w q queue (begun rest)) move
  · exact kept.clockNoEvent (begun rest) move

end Kept

/-- What every step of a machine keeps, every run of it keeps. -/
theorem run_keeps {M : Host.Core} {P : M.State → Prop} (kept : ∀ s t, P s → M.step s = .next t → P t) {n : Nat}
    {s t : M.State} (good : P s) (h : M.run n s = .next t) : P t := by
  induction n generalizing s with
  | zero =>
    cases h
    exact good
  | succ n ih =>
    unfold Host.Core.run at h
    split at h
    · next u first => exact ih (kept s u good first) h
    · cases h
    · cases h

/-! ### The invariant -/

/-- A reserved word is answered only where the block ignores it (R179). -/
theorem ignored_of_exec_reserved {w : EventWord} {s t : State} (h : exec (.reserved w) s = .next t) :
    s.cfg.reserved = .ignored := by
  cases rule : s.cfg.reserved with
  | ignored => rfl
  | refused => simp [exec, execReserved, rule] at h

/-- Every input that answers leaves a good state good. -/
theorem exec_keeps_inv {i : Instr} {s t : State} (inv : s.Inv) (h : exec i s = .next t) : t.Inv := by
  have ignores (w : EventWord) (reserved : i = .reserved w) : s.cfg.reserved = .ignored := by
    subst reserved
    exact ignored_of_exec_reserved h
  obtain ⟨u, answers, inv'⟩ := exec_endsInInv inv ignores
  cases answers.symm.trans h
  exact inv'

theorem tickWatchdog_keeps_inv {s t : State} (inv : s.Inv) (h : tickWatchdog s = .next t) : t.Inv := by
  obtain ⟨u, answers, inv'⟩ := tickWatchdog_endsInInv inv
  cases answers.symm.trans h
  exact inv'

theorem inv_keptByMoves : KeptByMoves State.Inv where
  environment s moves n inv := inv_environment inv s.queue moves n
  ports _ inv := inv_openClock inv
  post s v f inv := inv_environment inv (s.queue ++ [handleByteWord v f]) s.schedule s.freeCount
  take s _ q _ inv := inv_environment inv q s.schedule s.freeCount
  input _ _ _ inv := exec_keeps_inv inv
  tick _ _ inv := tickWatchdog_keeps_inv inv

/-- Settles O45: each part of a move keeps the invariant. -/
theorem stepKeepsInvariant : Obligations.StepKeepsInvariant := by
  unfold Obligations.StepKeepsInvariant
  exact fun s t inv h => inv_keptByMoves.step inv h

/-- Settles O44: the parameters at reset are legal, and nothing waits in the queue. -/
theorem resetMeetsInvariant : Obligations.ResetMeetsInvariant := by
  unfold Obligations.ResetMeetsInvariant
  exact ⟨inv_resetWith Config.params_wf, List.forall_mem_nil _⟩

/-- In every phase the buffer is consecutive cells from index 0 on, the cursor just after them (R30, R54). -/
theorem cells_of_frameInv {s : State} (frame : FrameInv s) :
    ∃ bs, s.buf = cellsFrom 0 bs ∧ s.cursor = bs.length := by
  cases phase : s.phase with
  | idle =>
    obtain ⟨buf, cursor, -⟩ := (frameInv_idle phase).1 frame
    exact ⟨[], buf, cursor⟩
  | lenHi =>
    obtain ⟨buf, cursor, -⟩ := (frameInv_lenHi phase).1 frame
    exact ⟨[delim], buf, cursor⟩
  | lenLo =>
    obtain ⟨hi, -, buf, cursor, -⟩ := (frameInv_lenLo phase).1 frame
    exact ⟨[delim, hi], buf, cursor⟩
  | body =>
    obtain ⟨hi, len, rem, sum, -, -, -, -, row⟩ := (frameInv_body phase).1 frame
    have ⟨buf, _⟩ := row
    exact ⟨_, buf, (cursor_eq_length row).trans (Nat.zero_add _)⟩

/-- No cell at or above the cursor holds a byte (R30). -/
theorem read_of_cursor_le {s : State} (frame : FrameInv s) {a : Nat} (above : s.cursor ≤ a) : s.buf.read a = none := by
  obtain ⟨bs, buf, cursor⟩ := cells_of_frameInv frame
  have cell := Memory.read_cellsFrom 0 a bs
  rw [Nat.zero_add, ← buf] at cell
  rw [cell, List.getElem?_eq_none (cursor ▸ above)]

/-- Settles O51: the first three rows of R30 have a cursor of at most 2, and in BODY there is room for one byte. -/
theorem cursorStaysInBuffer : Obligations.CursorStaysInBuffer := by
  unfold Obligations.CursorStaysInBuffer
  intro s inv
  refine ⟨?cursor, fun phase => cursor_lt_bufCap_of_body inv phase⟩
  obtain ⟨least, -⟩ := inv.params
  cases phase : s.phase with
  | idle =>
    obtain ⟨-, cursor, -⟩ := (frameInv_idle phase).1 inv.frame
    omega
  | lenHi =>
    obtain ⟨-, cursor, -⟩ := (frameInv_lenHi phase).1 inv.frame
    omega
  | lenLo =>
    obtain ⟨hi, -, -, cursor, -⟩ := (frameInv_lenLo phase).1 inv.frame
    omega
  | body => exact Nat.le_of_lt (cursor_lt_bufCap_of_body inv phase)

/-- Settles O46: the run keeps the invariant of the reset state it starts from. -/
theorem reachableStatesAreInTheTable : Obligations.ReachableStatesAreInTheTable := by
  unfold Obligations.ReachableStatesAreInTheTable
  intro p q moves n t params run
  have start := inv_environment (inv_resetWith params) q moves 0
  have inv : t.Inv := run_keeps (M := Sys2Proof.core) stepKeepsInvariant start run
  exact ⟨inv.frame, inv.watchdog, (cursorStaysInBuffer t inv).1, fun a => read_of_cursor_le inv.frame⟩

/-! ### The parameters and the queue -/

/-- No event step touches the parameters or the queue (R1, R60). -/
theorem exec_event_keeps_cfg_queue {i : Instr} {s t : State} (event : isEvent i = true) (h : exec i s = .next t) :
    t.cfg = s.cfg ∧ t.queue = s.queue := by
  have same := exec_event_armedIf event h
  rw [← same.cfg, ← same.queue]
  cases armsTable s i <;> exact ⟨rfl, rfl⟩

/-- A tick posts at most the TOUT of the expiry, which it shows as `wd_expire` (R153 to R155). -/
theorem tickWatchdog_queue {s t : State} (h : tickWatchdog s = .next t) :
    t.queue = s.queue ∨ (t.queue = s.queue ++ [0x8000] ∧ t.wdExpire = true) := by
  obtain ⟨-, rfl⟩ | ⟨n, -, -, -, rfl⟩ | ⟨-, -, rfl⟩ := tickWatchdog_eq_next.1 h
  · exact .inl rfl
  · exact .inl rfl
  · exact .inr ⟨rfl, rfl⟩

theorem tickWatchdog_keeps_cfg {s t : State} (h : tickWatchdog s = .next t) : t.cfg = s.cfg := by
  obtain ⟨-, rfl⟩ | ⟨n, -, -, -, rfl⟩ | ⟨-, -, rfl⟩ := tickWatchdog_eq_next.1 h <;> rfl

/-- The parameters are fixed for the life of the block (R1). -/
theorem exec_keeps_cfg {i : Instr} {s t : State} (h : exec i s = .next t) : t.cfg = s.cfg := by
  cases i with
  | tick => exact tickWatchdog_keeps_cfg (s := openClock s) h
  | reset =>
    cases h
    rfl
  | byte _ | lerr _ _ | tout | reserved _ => exact (exec_event_keeps_cfg_queue rfl h).1

theorem cfg_keptByMoves (p : Params) : KeptByMoves (·.cfg = p) where
  environment _ _ _ kept := kept
  ports _ kept := kept
  post _ _ _ kept := kept
  take _ _ _ _ kept := kept
  input _ _ _ kept h := (exec_keeps_cfg h).trans kept
  tick _ _ kept h := (tickWatchdog_keeps_cfg h).trans kept

/-- Settles O50: each part of a move keeps the parameters. -/
theorem parametersAreFixed : Obligations.ParametersAreFixed := by
  unfold Obligations.ParametersAreFixed
  exact fun s t h => (cfg_keptByMoves s.cfg).step rfl h

/-- The word of a received byte decodes to a BYTE or a LERR, so it is none of R81's table (R174). -/
theorem reservedPattern_handleByteWord (v : Byte) (f : LineFlags) : reservedPattern (handleByteWord v f) = false := by
  refine Bool.eq_false_of_not_eq_true fun listed => ?_
  have reserved := decode_of_reservedPattern listed
  obtain ⟨empty, flagged⟩ := handleByteSplitsOnFlags v f
  by_cases none_set : f = noFlags
  · exact nomatch (empty none_set).2.symm.trans reserved
  · exact nomatch (flagged none_set).1.symm.trans reserved

theorem cleanQueue_append {s : State} {w : EventWord} (clean : CleanQueue s) (fresh : reservedPattern w = false) :
    ∀ x ∈ s.queue ++ [w], reservedPattern x = false :=
  List.forall_mem_append.2 ⟨clean, List.forall_mem_singleton.2 fresh⟩

theorem tickWatchdog_keeps_cleanQueue {s t : State} (clean : CleanQueue s) (h : tickWatchdog s = .next t) :
    CleanQueue t := by
  unfold CleanQueue
  obtain queue | ⟨queue, -⟩ := tickWatchdog_queue h
  · exact queue ▸ clean
  · exact queue ▸ cleanQueue_append clean rfl

theorem exec_keeps_cleanQueue {i : Instr} {s t : State} (clean : CleanQueue s) (h : exec i s = .next t) :
    CleanQueue t := by
  cases i with
  | tick => exact tickWatchdog_keeps_cleanQueue (s := openClock s) clean h
  | reset =>
    cases h
    exact clean
  | byte _ | lerr _ _ | tout | reserved _ =>
    unfold CleanQueue
    exact (exec_event_keeps_cfg_queue rfl h).2 ▸ clean

theorem cleanQueue_keptByMoves : KeptByMoves CleanQueue where
  environment _ _ _ clean := clean
  ports _ clean := clean
  post _ v f clean := cleanQueue_append clean (reservedPattern_handleByteWord v f)
  take _ _ _ queue clean w' waits := clean w' (queue ▸ List.mem_cons_of_mem _ waits)
  input _ _ _ clean := exec_keeps_cleanQueue clean
  tick _ _ clean := tickWatchdog_keeps_cleanQueue clean

/-- Settles O48: the words posted are those of received bytes and the TOUT of the expiry. -/
theorem cleanQueueStaysClean : Obligations.CleanQueueStaysClean := by
  unfold Obligations.CleanQueueStaysClean
  exact fun s t clean h => cleanQueue_keptByMoves.step clean h

/-- A tick beside an event, where it counts, posts at most the TOUT of the expiry. -/
theorem tickAfterEvent_queue {s t : State} (h : tickAfterEvent s = .next t) :
    t.queue = s.queue ∨ (t.queue = s.queue ++ [0x8000] ∧ t.wdExpire = true) := by
  unfold tickAfterEvent at h
  split at h
  · cases h
    exact .inl rfl
  · exact tickWatchdog_queue h

/-- A clock that consumes a word leaves the rest of the queue, behind it at most the TOUT of the expiry. -/
theorem consume_queue {w : EventWord} {tick : Bool} {s t : State} (h : consume w tick s = .next t) :
    t.queue = s.queue ∨ (t.queue = s.queue ++ [0x8000] ∧ t.wdExpire = true) := by
  obtain ⟨u, event, after⟩ := andThen_eq_next.1 h
  obtain ⟨-, queue⟩ := exec_event_keeps_cfg_queue (isEvent_decode w) event
  rw [← queue]
  split at after
  · exact tickAfterEvent_queue after
  · cases after
    exact .inl rfl

/-- So does a clock without event, which takes no word. -/
theorem clockNoEvent_queue {tick : Bool} {s t : State} (h : clockNoEvent tick s = .next t) :
    t.queue = s.queue ∨ (t.queue = s.queue ++ [0x8000] ∧ t.wdExpire = true) := by
  unfold clockNoEvent at h
  split at h
  · exact tickWatchdog_queue (s := openClock s) h
  · cases h
    exact .inl rfl

/-- Settles O42: the moves one by one; only an offering clock takes a word, and what is added stands at the tail. -/
theorem queueIsFirstInFirstOut : Obligations.QueueIsFirstInFirstOut := by
  unfold Obligations.QueueIsFirstInFirstOut
  intro s t h
  obtain ⟨-, rfl⟩ | ⟨v, f, rest, schedule, move⟩ | ⟨o, k, rest, -, move⟩ | ⟨w, q, k, rest, schedule, queue, move⟩
    | ⟨o, k, rest, -, -, move⟩ := step_eq_next.1 h
  · exact ⟨[], s.queue, [], rfl, (List.append_nil _).symm, .inl rfl, .inl rfl⟩
  · cases move
    exact ⟨[], s.queue, [handleByteWord v f], rfl, rfl, .inl rfl, .inr (.inr ⟨v, f, rest, schedule, rfl, rfl⟩)⟩
  · cases move
    exact ⟨[], s.queue, [], rfl, (List.append_nil _).symm, .inl rfl, .inl rfl⟩
  · have head : s.queue = [w] ++ q := queue
    obtain kept | ⟨posted, expired⟩ := consume_queue move
    · exact ⟨[w], q, [], head, kept.trans (List.append_nil q).symm, .inr ⟨w, k, rest, rfl, schedule⟩, .inl rfl⟩
    · exact ⟨[w], q, [0x8000], head, posted, .inr ⟨w, k, rest, rfl, schedule⟩, .inr (.inl ⟨rfl, expired⟩)⟩
  · obtain kept | ⟨posted, expired⟩ := clockNoEvent_queue move
    · exact ⟨[], s.queue, [], rfl, kept.trans (List.append_nil _).symm, .inl rfl, .inl rfl⟩
    · exact ⟨[], s.queue, [0x8000], rfl, posted, .inl rfl, .inr (.inl ⟨rfl, expired⟩)⟩

end Sys2Proof.Machine
end

section
/-! SUPPORT. The numbers on the ports (spec/30_encoding.md R83, R84), the port inputs and the
reserved words, and the step on each move of the environment (spec/43_interface_and_step.md R182). -/

namespace Sys2Proof.Machine

/-- Settles O7: the codes are literals; a length below 65536 survives the 16 bits of its port. -/
theorem outputPortCodes : Obligations.OutputPortCodes := by
  unfold Obligations.OutputPortCodes
  refine ⟨rfl, rfl, rfl, fun p => ⟨rfl, rfl⟩, fun p size => ?len, fun r => ⟨rfl, rfl⟩, rfl, rfl, rfl, rfl, rfl, rfl,
    rfl, rfl⟩
  rw [outLen, BitVec.toNat_ofNat]
  exact Nat.mod_eq_of_lt size

/-- Settles O17: the complement of a byte is what is missing to 255. -/
theorem expectedChecksumIsComplement : Obligations.ExpectedChecksumIsComplement := by
  unfold Obligations.ExpectedChecksumIsComplement
  refine fun c => ⟨eq_expectedChecksum_iff.1 rfl, ?complement⟩
  unfold expectedChecksum
  bv_omega

/-- Settles O36: RESET is a constant in every field but the parameters and the environment. -/
theorem resetInputSetsEveryField : Obligations.ResetInputSetsEveryField := by
  unfold Obligations.ResetInputSetsEveryField
  exact fun s => exec_reset s

/-- Settles O39: the parameter chooses between the two lines of R179. -/
theorem reservedWordIgnoredOrRefused : Obligations.ReservedWordIgnoredOrRefused := by
  unfold Obligations.ReservedWordIgnoredOrRefused
  refine fun w s => ⟨fun ignored => ?ignored, fun refused => ?refused⟩
  case ignored =>
    simp only [exec, execReserved, ignored]
    rfl
  case refused => simp only [exec, execReserved, refused]

/-! ### Consuming an event -/

section Consume

variable {w : EventWord} {s t : State}

/-- A clock that only offers an event does the event's step. -/
theorem consume_without_tick (w : EventWord) (s : State) : consume w false s = exec (decode w) s := by
  unfold consume
  cases exec (decode w) s <;> rfl

/-- Where the event's step answers, the tick of its clock comes next. -/
theorem consume_with_tick (event : exec (decode w) s = .next t) : consume w true s = tickAfterEvent t := by
  rw [consume, event]
  rfl

/-- Where it stops, its clock stops the same. -/
theorem consume_of_stop (stops : ∀ t, exec (decode w) s ≠ .next t) (tick : Bool) :
    consume w tick s = exec (decode w) s := by
  unfold consume
  cases event : exec (decode w) s with
  | next t => exact absurd event (stops t)
  | fault r => rfl
  | refused r => rfl

/-- A tick that no Arm() of its clock beats counts (R156). -/
theorem tickAfterEvent_of_not_arm (quiet : s.arm = false) : tickAfterEvent s = tickWatchdog s :=
  if_neg (Bool.not_eq_true _ ▸ quiet)

end Consume

/-- Settles O40: the clock consumes the head of the queue and has no tick. -/
theorem stepRunsDecodedInput : Obligations.StepRunsDecodedInput := by
  unfold Obligations.StepRunsDecodedInput
  intro s w q rest queue schedule
  rw [step_consume queue schedule, consume_without_tick]
  rfl

/-- Settles O58: the placed word is the head of the queue, the placed clock the head of the schedule. -/
theorem placedWordRunsNext : Obligations.PlacedWordRunsNext := by
  unfold Obligations.PlacedWordRunsNext
  intro s nbits w _
  exact stepRunsDecodedInput (s.withFetchWord nbits w) (BitVec.ofNat 16 w) s.queue s.schedule rfl rfl

/-! ### The other moves -/

section Moves

variable {s : State} {rest : List Move}

theorem step_post {v : Byte} {f : LineFlags} (schedule : s.schedule = .post v f :: rest) :
    step s = .next { openClock (beginStep rest s) with queue := s.queue ++ [handleByteWord v f] } := by
  simp only [step, systemStep, schedule, takeMove]
  rfl

/-- A clock without reset that offers no event, or finds none in the queue (log 8). -/
theorem step_clockNoEvent {offer tick : Bool} (schedule : s.schedule = .clock false offer tick :: rest)
    (none_offered : offer = true → s.queue = []) : step s = clockNoEvent tick (beginStep rest s) := by
  cases offer with
  | false => simp [step, systemStep, schedule, takeMove, clockStep]
  | true => simp [step, systemStep, schedule, takeMove, clockStep, none_offered]

theorem step_expiring_tick (schedule : s.schedule = .clock false false true :: rest) (armed : s.wdArmed = true)
    (last : s.wdCount = some 1) :
    step s = .next (withQuietPorts true { beginStep rest s with
      wdArmed := false, wdCount := none, queue := s.queue ++ [0x8000] }) :=
  (step_clockNoEvent schedule nofun).trans (tickExpires (beginStep rest s) armed last)

theorem step_idle (schedule : s.schedule = []) : step s = .next (openClock (beginStep [] s)) := by
  simp only [step, systemStep, schedule]

end Moves

/-- A clock with an event and a tick, against the same clock without the tick: where the event's step does not arm, the
tick counts on the state it leaves; where it stops, so does the clock (R153 to R156; log 8). -/
theorem step_tick_beside_event {s : State} {w : EventWord} {q : List EventWord} {rest : List Move}
    (queue : s.queue = w :: q) (schedule : s.schedule = .clock false true true :: rest) :
    (∀ t, step { s with schedule := .clock false true false :: rest } = .next t → t.arm = false →
        step s = tickWatchdog t)
      ∧ ((∀ t, step { s with schedule := .clock false true false :: rest } ≠ .next t) →
        step s = step { s with schedule := .clock false true false :: rest }) := by
  have alone : step { s with schedule := .clock false true false :: rest }
      = exec (decode w) { beginStep rest s with queue := q } :=
    (step_consume (s := { s with schedule := .clock false true false :: rest }) queue rfl).trans
      (consume_without_tick w _)
  rw [alone, step_consume queue schedule]
  refine ⟨fun t event quiet => ?answers, fun stops => consume_of_stop stops true⟩
  rw [consume_with_tick event, tickAfterEvent_of_not_arm quiet]

/-- Settles O41: one equation of the step for each move, and the three cases of a tick at the watchdog. -/
theorem stepRunsOtherMoves : Obligations.StepRunsOtherMoves := by
  unfold Obligations.StepRunsOtherMoves
  intro s rest
  refine ⟨fun v f schedule => step_post schedule, fun schedule => ?tick, fun schedule => ?quiet,
    fun k schedule queue => ?offer, fun schedule => ?idle, fun w q queue schedule => ?beside⟩
  case tick => exact step_clockNoEvent schedule nofun
  case quiet => exact step_clockNoEvent schedule nofun
  case offer =>
    rw [step_clockNoEvent schedule fun _ => queue]
    exact (step_clockNoEvent (s := { s with schedule := .clock false false k :: rest }) rfl nofun).symm
  case idle =>
    rw [step_idle schedule, ← schedule]
    rfl
  case beside =>
    obtain ⟨answers, stops⟩ := step_tick_beside_event queue schedule
    refine ⟨fun t event quiet => ?_, stops⟩
    rw [answers t event quiet]
    exact ⟨rfl, fun disarmed => tickWatchdog_eq_next.2 (.inl ⟨disarmed, rfl⟩),
      fun n armed count more => tickWatchdog_eq_next.2 (.inr (.inl ⟨n, armed, count, more, rfl⟩)),
      fun armed last => tickWatchdog_eq_next.2 (.inr (.inr ⟨armed, last, rfl⟩))⟩

/-- Settles O35: a post and an expiring tick, each on the state the other leaves. -/
theorem sameInstantPostsInEitherOrder : Obligations.SameInstantPostsInEitherOrder := by
  unfold Obligations.SameInstantPostsInEitherOrder
  intro s v f armed last
  constructor
  · exact ⟨_, _, step_post rfl, step_expiring_tick rfl armed last, List.append_assoc _ _ _⟩
  · exact ⟨_, _, step_expiring_tick rfl armed last, step_post rfl, List.append_assoc _ _ _⟩

end Sys2Proof.Machine
end

section
/-! SUPPORT. Everything an event step can do, from any state at all (spec/43_interface_and_step.md R179), and what that
says of the buffer, the outcome and the payload window. -/

namespace Sys2Proof.Machine

/-- `s` with the byte `b` in the cell at its cursor, and the cursor one further (R52). -/
def appended (b : Byte) (s : State) : State := { s with buf := s.buf.write s.cursor b, cursor := s.cursor + 1 }

/-- The end of a step that stored a byte: the watchdog is armed and the outcome is Continue. -/
def stored (s : State) : State := withEventPorts .continue_ noFlags true none (withArmedWatchdog s)

/-- The end of a BYTE step that ends the frame of `s` with outcome `o` (R207). -/
def ended (o : FrameOutcome) (s : State) : State := withEventPorts o noFlags false (windowAfter o none) (withEmptyFrame s)

/-- The ways in which an event input is answered from `s`, with the state it leaves: one for each arm of BYTE (R101 to
R112), and one each for LERR, TOUT and an ignored reserved word. -/
inductive EventAnswer (s : State) : Instr → State → Prop where
  | noise {b : Byte} (phase : s.phase = .idle) (other : b ≠ delim) :
      EventAnswer s (.byte b) (withEventPorts .continue_ noFlags false none s)
  | start (phase : s.phase = .idle) (room : 0 < s.cfg.bufCap) :
      EventAnswer s (.byte delim) (stored { appended delim (withEmptyFrame s) with phase := .lenHi })
  | lengthHigh (b : Byte) (phase : s.phase = .lenHi) (room : s.cursor < s.cfg.bufCap) :
      EventAnswer s (.byte b) (stored { appended b s with phase := .lenLo, lenHi := some b })
  | accepted {b hi : Byte} (phase : s.phase = .lenLo) (room : s.cursor < s.cfg.bufCap) (high : s.lenHi = some hi)
      (fits : hi.toNat * 256 + b.toNat + 4 ≤ s.cfg.bufCap) :
      EventAnswer s (.byte b) (stored { appended b s with
        phase := .body, declLen := some (declaredLength hi b), remaining := some (declaredLength hi b), csum := some 0 })
  | overflow {b hi : Byte} (phase : s.phase = .lenLo) (room : s.cursor < s.cfg.bufCap) (high : s.lenHi = some hi)
      (tooLong : s.cfg.bufCap < hi.toNat * 256 + b.toNat + 4) :
      EventAnswer s (.byte b) (ended (.frameDiscarded .bufferOverflow) s)
  | payload (b : Byte) {rem : BitVec 16} {sum : Byte} (phase : s.phase = .body) (room : s.cursor < s.cfg.bufCap)
      (left : s.remaining = some rem) (more : rem ≠ 0) (running : s.csum = some sum) :
      EventAnswer s (.byte b) (stored { appended b s with csum := some (addToSum sum b), remaining := some (rem - 1) })
  | completed {sum : Byte} {len : BitVec 16} {p : List Byte} (phase : s.phase = .body) (room : s.cursor < s.cfg.bufCap)
      (left : s.remaining = some 0) (running : s.csum = some sum) (declared : s.declLen = some len)
      (read : bufReadRange (appended (expectedChecksum sum) s) 3 len.toNat = .next p) :
      EventAnswer s (.byte (expectedChecksum sum)) (ended (.frameComplete p) s)
  | mismatch {b sum : Byte} (phase : s.phase = .body) (room : s.cursor < s.cfg.bufCap) (left : s.remaining = some 0)
      (running : s.csum = some sum) (other : b ≠ expectedChecksum sum) :
      EventAnswer s (.byte b) (ended (.frameDiscarded .checksumMismatch) s)
  | lineError (f : LineFlags) (d : Byte) : EventAnswer s (.lerr f d) (abandoned .lineError f s)
  | timeout : EventAnswer s .tout (abandoned .timeout noFlags s)
  | ignored (w : EventWord) (rule : s.cfg.reserved = .ignored) :
      EventAnswer s (.reserved w) (withEventPorts .continue_ noFlags false none s)

/-! ### The arms of BYTE -/

section Arms

variable {b : Byte} {s t : State}

/-- A buffer read sees BUF_CAP and the cells alone. -/
theorem bufReadRange_congr (cfg : s.cfg = t.cfg) (buf : s.buf = t.buf) (i n : Nat) :
    bufReadRange s i n = bufReadRange t i n := by
  induction n generalizing i with
  | zero => rfl
  | succ n ih => simp only [bufReadRange, bufRead, cfg, buf, ih]

theorem bufAppend_openEvent_eq_next :
    bufAppend b (openEvent s) = .next t ↔ s.cursor < s.cfg.bufCap ∧ t = appended b (openEvent s) :=
  bufAppend_eq_next

theorem byteDelimiter_eq_next :
    byteDelimiter (openEvent s) = .next t ↔
      0 < s.cfg.bufCap ∧ t = stored { appended delim (withEmptyFrame s) with phase := .lenHi } := by
  simp only [byteDelimiter, andThen_eq_next, bufAppend_eq_next]
  constructor
  · rintro ⟨u, ⟨room, rfl⟩, h⟩
    cases h
    exact ⟨room, rfl⟩
  · rintro ⟨room, rfl⟩
    exact ⟨_, ⟨room, rfl⟩, rfl⟩

theorem byteLengthHigh_eq_next :
    byteLengthHigh b (openEvent s) = .next t ↔
      s.cursor < s.cfg.bufCap ∧ t = stored { appended b s with phase := .lenLo, lenHi := some b } := by
  simp only [byteLengthHigh, andThen_eq_next, bufAppend_eq_next]
  constructor
  · rintro ⟨u, ⟨room, rfl⟩, h⟩
    cases h
    exact ⟨room, rfl⟩
  · rintro ⟨room, rfl⟩
    exact ⟨_, ⟨room, rfl⟩, rfl⟩

theorem byteLengthLow_eq_next :
    byteLengthLow b (openEvent s) = .next t ↔
      s.cursor < s.cfg.bufCap ∧ ∃ hi, s.lenHi = some hi
        ∧ ((s.cfg.bufCap < hi.toNat * 256 + b.toNat + 4 ∧ t = ended (.frameDiscarded .bufferOverflow) s)
          ∨ (hi.toNat * 256 + b.toNat + 4 ≤ s.cfg.bufCap ∧ t = stored { appended b s with
              phase := .body, declLen := some (declaredLength hi b), remaining := some (declaredLength hi b)
              csum := some 0 })) := by
  simp only [byteLengthLow, andThen_eq_next, bufAppend_openEvent_eq_next, readField_eq_next, overflows_eq,
    declaredLength_toNat, decide_eq_true_eq]
  constructor
  · rintro ⟨u, ⟨room, rfl⟩, hi, high, h⟩
    refine ⟨room, hi, high, ?_⟩
    split at h
    · next tooLong =>
      cases h
      exact .inl ⟨tooLong, rfl⟩
    · next fits =>
      cases h
      exact .inr ⟨Nat.le_of_not_lt fits, rfl⟩
  · rintro ⟨room, hi, high, ⟨tooLong, rfl⟩ | ⟨fits, rfl⟩⟩
    · exact ⟨_, ⟨room, rfl⟩, hi, high, if_pos tooLong⟩
    · exact ⟨_, ⟨room, rfl⟩, hi, high, if_neg (Nat.not_lt.2 fits)⟩

theorem bytePayload_eq_next {rem : BitVec 16} :
    bytePayload b rem (openEvent s) = .next t ↔
      s.cursor < s.cfg.bufCap ∧ ∃ sum, s.csum = some sum
        ∧ t = stored { appended b s with csum := some (addToSum sum b), remaining := some (rem - 1) } := by
  simp only [bytePayload, andThen_eq_next, bufAppend_openEvent_eq_next, readField_eq_next]
  constructor
  · rintro ⟨u, ⟨room, rfl⟩, sum, running, h⟩
    cases h
    exact ⟨room, sum, running, rfl⟩
  · rintro ⟨room, sum, running, rfl⟩
    exact ⟨_, ⟨room, rfl⟩, sum, running, rfl⟩

theorem frameComplete_eq_next :
    frameComplete (appended b (openEvent s)) = .next t ↔
      ∃ len, s.declLen = some len
        ∧ ∃ p, bufReadRange (appended b s) 3 len.toNat = .next p ∧ t = ended (.frameComplete p) s := by
  have sameCells := bufReadRange_congr (s := appended b (openEvent s)) (t := appended b s) rfl rfl 3
  simp only [frameComplete, andThen_eq_next, readField_eq_next, sameCells]
  constructor
  · rintro ⟨len, declared, p, read, h⟩
    cases h
    exact ⟨len, declared, p, read, rfl⟩
  · rintro ⟨len, declared, p, read, rfl⟩
    exact ⟨len, declared, p, read, rfl⟩

theorem byteChecksum_eq_next :
    byteChecksum b (openEvent s) = .next t ↔
      s.cursor < s.cfg.bufCap ∧ ∃ sum, s.csum = some sum
        ∧ ((b = expectedChecksum sum ∧ frameComplete (appended b (openEvent s)) = .next t)
          ∨ (b ≠ expectedChecksum sum ∧ t = ended (.frameDiscarded .checksumMismatch) s)) := by
  simp only [byteChecksum, andThen_eq_next, bufAppend_openEvent_eq_next, readField_eq_next]
  constructor
  · rintro ⟨u, ⟨room, rfl⟩, sum, running, h⟩
    refine ⟨room, sum, running, ?_⟩
    split at h
    · next matching => exact .inl ⟨matching, h⟩
    · next other =>
      cases h
      exact .inr ⟨other, rfl⟩
  · rintro ⟨room, sum, running, ⟨matching, h⟩ | ⟨other, rfl⟩⟩
    · exact ⟨_, ⟨room, rfl⟩, sum, running, (if_pos matching).trans h⟩
    · exact ⟨_, ⟨room, rfl⟩, sum, running, if_neg other⟩

end Arms

/-! ### Every event -/

section Answers

variable {s t : State} {i : Instr}

theorem eventAnswer_of_exec_byte {b : Byte} (h : exec (.byte b) s = .next t) : EventAnswer s (.byte b) t := by
  cases phase : s.phase with
  | idle =>
    rw [exec_byte_idle phase] at h
    split at h
    · next start =>
      obtain ⟨room, rfl⟩ := byteDelimiter_eq_next.1 h
      exact start ▸ .start phase room
    · next other =>
      cases h
      exact .noise phase other
  | lenHi =>
    rw [exec_byte_lenHi phase] at h
    obtain ⟨room, rfl⟩ := byteLengthHigh_eq_next.1 h
    exact .lengthHigh b phase room
  | lenLo =>
    rw [exec_byte_lenLo phase] at h
    obtain ⟨room, hi, high, ⟨tooLong, rfl⟩ | ⟨fits, rfl⟩⟩ := byteLengthLow_eq_next.1 h
    · exact .overflow phase room high tooLong
    · exact .accepted phase room high fits
  | body =>
    rw [exec_byte_body phase] at h
    obtain ⟨rem, left, h⟩ := andThen_eq_next.1 h
    rw [readField_eq_next] at left
    split at h
    · next last =>
      subst last
      obtain ⟨room, sum, running, ⟨rfl, h⟩ | ⟨other, rfl⟩⟩ := byteChecksum_eq_next.1 h
      · obtain ⟨len, declared, p, read, rfl⟩ := frameComplete_eq_next.1 h
        exact .completed phase room left running declared read
      · exact .mismatch phase room left running other
    · next more =>
      obtain ⟨room, sum, running, rfl⟩ := bytePayload_eq_next.1 h
      exact .payload b phase room left more running

/-- An event that answers does so in one of the listed ways. -/
theorem eventAnswer_of_exec (event : isEvent i = true) (h : exec i s = .next t) : EventAnswer s i t := by
  cases i with
  | byte b => exact eventAnswer_of_exec_byte h
  | lerr f d =>
    cases (exec_lerr f d s).symm.trans h
    exact .lineError f d
  | tout =>
    cases (exec_tout s).symm.trans h
    exact .timeout
  | tick | reset => cases event
  | reserved w =>
    have rule := ignored_of_exec_reserved h
    rw [(reservedWordIgnoredOrRefused w s).1 rule] at h
    cases h
    exact .ignored w rule

/-- Each of the listed ways is the step's. -/
theorem EventAnswer.exec_eq_next (answer : EventAnswer s i t) : exec i s = .next t := by
  cases answer with
  | noise phase other => exact idleByteIsNoise _ s phase other
  | start phase room => rw [exec_byte_idle phase, if_pos rfl, byteDelimiter_eq_next.2 ⟨room, rfl⟩]
  | lengthHigh b phase room => rw [exec_byte_lenHi phase, byteLengthHigh_eq_next.2 ⟨room, rfl⟩]
  | accepted phase room high fits =>
    rw [exec_byte_lenLo phase, byteLengthLow_eq_next.2 ⟨room, _, high, .inr ⟨fits, rfl⟩⟩]
  | overflow phase room high tooLong =>
    rw [exec_byte_lenLo phase, byteLengthLow_eq_next.2 ⟨room, _, high, .inl ⟨tooLong, rfl⟩⟩]
  | payload b phase room left more running =>
    rw [exec_byte_body phase, left, readField_some, andThen_next, if_neg more,
      bytePayload_eq_next.2 ⟨room, _, running, rfl⟩]
  | completed phase room left running declared read =>
    have complete := frameComplete_eq_next.2 ⟨_, declared, _, read, rfl⟩
    rw [exec_byte_body phase, left, readField_some, andThen_next, if_pos rfl,
      byteChecksum_eq_next.2 ⟨room, _, running, .inl ⟨rfl, complete⟩⟩]
  | mismatch phase room left running other =>
    rw [exec_byte_body phase, left, readField_some, andThen_next, if_pos rfl,
      byteChecksum_eq_next.2 ⟨room, _, running, .inr ⟨other, rfl⟩⟩]
  | lineError f d => exact exec_lerr f d s
  | timeout => exact exec_tout s
  | ignored w rule => exact (reservedWordIgnoredOrRefused w s).1 rule

end Answers

/-! ### The buffer -/

/-- A LERR or a TOUT empties the buffer or leaves it (R131, R133). -/
theorem abandoned_buf (r : DiscardReason) (f : LineFlags) (s : State) :
    (abandoned r f s).buf = s.buf ∨ (abandoned r f s).buf = [] := by
  by_cases idle : s.phase = .idle
  · rw [abandoned_of_idle idle]
    exact .inl rfl
  · rw [abandoned_of_open idle]
    exact .inr rfl

/-- No event stores more than one byte, at the cursor (R51, R52). -/
theorem EventAnswer.buf {i : Instr} {s t : State} (answer : EventAnswer s i t) :
    t.buf = s.buf ∨ t.buf = [] ∨ ∃ a b, t.buf = Memory.write [] a b ∨ t.buf = s.buf.write a b := by
  cases answer with
  | noise | ignored => exact .inl rfl
  | start => exact .inr (.inr ⟨_, _, .inl rfl⟩)
  | lengthHigh | accepted | payload => exact .inr (.inr ⟨_, _, .inr rfl⟩)
  | overflow | completed | mismatch => exact .inr (.inl rfl)
  | lineError f d => exact (abandoned_buf .lineError f s).imp_right .inl
  | timeout => exact (abandoned_buf .timeout noFlags s).imp_right .inl

theorem EventAnswer.keeps_wf {i : Instr} {s t : State} (answer : EventAnswer s i t) (wf : Memory.wf s.buf) :
    Memory.wf t.buf := by
  obtain kept | emptied | ⟨a, b, fresh | written⟩ := answer.buf
  · exact kept ▸ wf
  · exact emptied ▸ Memory.wf_nil
  · exact fresh ▸ Memory.wf_write Memory.wf_nil a b
  · exact written ▸ Memory.wf_write wf a b

theorem tickWatchdog_keeps_buf {s t : State} (h : tickWatchdog s = .next t) : t.buf = s.buf := by
  obtain ⟨-, rfl⟩ | ⟨n, -, -, -, rfl⟩ | ⟨-, -, rfl⟩ := tickWatchdog_eq_next.1 h <;> rfl

theorem exec_keeps_wf {i : Instr} {s t : State} (wf : Memory.wf s.buf) (h : exec i s = .next t) : Memory.wf t.buf := by
  cases i with
  | tick => exact tickWatchdog_keeps_buf (s := openClock s) h ▸ wf
  | reset =>
    cases h
    exact Memory.wf_nil
  | byte _ | lerr _ _ | tout | reserved _ => exact (eventAnswer_of_exec rfl h).keeps_wf wf

theorem wf_keptByMoves : KeptByMoves (Memory.wf ·.buf) where
  environment _ _ _ wf := wf
  ports _ wf := wf
  post _ _ _ wf := wf
  take _ _ _ _ wf := wf
  input _ _ _ wf h := exec_keeps_wf wf h
  tick _ _ wf h := tickWatchdog_keeps_buf h ▸ wf

/-- Settles O47: a cell is written through `Memory.write` alone, which keeps the order of the cells. -/
theorem bufferStaysCanonical : Obligations.BufferStaysCanonical := by
  unfold Obligations.BufferStaysCanonical
  exact fun s t wf h => wf_keptByMoves.step wf h

/-- The environment is no part of what an event step touches. -/
theorem EventAnswer.sameEnv {i : Instr} {s t : State} (answer : EventAnswer s i t) : SameEnv s t := by
  have abandons (r : DiscardReason) (f : LineFlags) : SameEnv s (abandoned r f s) := by
    unfold abandoned
    split <;> constructor <;> rfl
  cases answer with
  | lineError f d => exact abandons .lineError f
  | timeout => exact abandons .timeout noFlags
  | noise | start | lengthHigh | accepted | overflow | payload | completed | mismatch | ignored => constructor <;> rfl

/-- In IDLE a good state has an empty buffer and the cursor at 0. -/
theorem idle_empty {s : State} (inv : s.Inv) (phase : s.phase = .idle) : s.buf = [] ∧ s.cursor = 0 := by
  obtain ⟨buf, cursor, -⟩ := (frameInv_idle phase).1 inv.frame
  exact ⟨buf, cursor⟩

/-- From a good state an event that ends outside IDLE is an ignored reserved word, or a byte stored at the cursor. -/
theorem EventAnswer.stores {i : Instr} {s t : State} (inv : s.Inv) (answer : EventAnswer s i t)
    (inFrame : t.phase ≠ .idle) :
    (∃ w, i = .reserved w ∧ SameFrame s t)
      ∨ ∃ b, i = .byte b ∧ t.buf = s.buf.write s.cursor b ∧ t.cursor = s.cursor + 1 := by
  cases answer with
  | noise phase => exact absurd phase inFrame
  | start phase =>
    obtain ⟨buf, cursor⟩ := idle_empty inv phase
    rw [buf, cursor]
    exact .inr ⟨delim, rfl, rfl, rfl⟩
  | lengthHigh b | accepted | payload b => exact .inr ⟨_, rfl, rfl, rfl⟩
  | overflow | completed | mismatch => exact absurd rfl inFrame
  | lineError | timeout => exact absurd abandoned_phase inFrame
  | ignored w => exact .inl ⟨w, rfl, sameFrame_withEventPorts _ _ _ _ s⟩

/-- Settles O43: an IDLE row has no cell; outside IDLE the buffer differs by one write at the cursor. -/
theorem eventStoresOneByteAtCursor : Obligations.EventStoresOneByteAtCursor := by
  unfold Obligations.EventStoresOneByteAtCursor
  intro i s t inv event h
  have answer := eventAnswer_of_exec event h
  refine ⟨fun phase a => ?idle, fun inFrame => (answer.stores inv inFrame).imp_right ?stored, answer.sameEnv,
    exec_keeps_cfg h⟩
  case idle => rw [(idle_empty (exec_keeps_inv inv h) phase).1, Memory.read_nil]
  case stored =>
    rintro ⟨b, input, buf, cursor⟩
    rw [buf]
    exact ⟨b, input, Memory.read_write_same _ _ _, cursor, fun a other => Memory.read_write_other _ _ other⟩

/-! ### The outcome and the payload window -/

/-- Settles O52: the rows of an event that end a frame are those of a discard or of a completion. -/
theorem eachFrameEndsWithOneOutcome : Obligations.EachFrameEndsWithOneOutcome := by
  unfold Obligations.EachFrameEndsWithOneOutcome
  intro i s t inv event h
  have answer := eventAnswer_of_exec event h
  refine ⟨fun inFrame idle => ?ends, fun stays => ?stays⟩
  case ends =>
    obtain ⟨buf, cursor, lenHi, declLen, remaining, csum⟩ := (frameInv_idle idle).1 (exec_keeps_inv inv h).frame
    refine ⟨buf, cursor, lenHi, declLen, remaining, csum, ?_⟩
    cases answer with
    | noise phase | start phase => exact absurd phase inFrame
    | lengthHigh | accepted => cases idle
    | payload b phase | ignored w => exact absurd idle inFrame
    | completed => exact .inl ⟨_, rfl⟩
    | overflow | mismatch => exact .inr ⟨_, rfl⟩
    | lineError | timeout => exact .inr ⟨_, abandoned_outcome.trans (congrArg some (if_neg inFrame))⟩
  case stays =>
    cases answer with
    | noise | start | lengthHigh | accepted | payload | ignored => rfl
    | overflow phase | completed phase | mismatch phase => simp [ended, phase] at stays
    | lineError | timeout =>
      have idle := stays.resolve_left fun inFrame => inFrame abandoned_phase
      exact abandoned_outcome.trans (congrArg some (if_pos idle))

theorem abandoned_payload (r : DiscardReason) (f : LineFlags) (s : State) : (abandoned r f s).payload = none := by
  unfold abandoned
  split <;> rfl

/-- After an event the window is what its outcome opens (R177). -/
theorem EventAnswer.window {i : Instr} {s t : State} (answer : EventAnswer s i t) :
    t.payload = none ∨ ∃ p, t.outcome = some (.frameComplete p) := by
  cases answer with
  | completed => exact .inr ⟨_, rfl⟩
  | lineError f d => exact .inl (abandoned_payload .lineError f s)
  | timeout => exact .inl (abandoned_payload .timeout noFlags s)
  | noise | start | lengthHigh | accepted | overflow | payload | mismatch | ignored => exact .inl rfl

section Port

variable {t : State} {a : BitVec 16}

theorem plData_of_closed (closed : t.payload = none) : plData t a = Config.plDataFree t.freeCount a := by
  rw [plData, closed]

theorem plData_inside {p : List Byte} (window : t.payload = some p) (inside : a.toNat < p.length) :
    p[a.toNat]? = some (plData t a) := by
  simp [plData, window, inside]

theorem plData_past {p : List Byte} (window : t.payload = some p) (past : p.length ≤ a.toNat) :
    plData t a = Config.plDataFree t.freeCount a := by
  simp [plData, window, past]

end Port

theorem tickWatchdog_keeps_payload {s t : State} (h : tickWatchdog s = .next t) : t.payload = s.payload := by
  obtain ⟨-, rfl⟩ | ⟨n, -, -, -, rfl⟩ | ⟨-, -, rfl⟩ := tickWatchdog_eq_next.1 h <;> rfl

/-- Settles O54: the invariant puts the payload of a FrameComplete in the window, where it fits the buffer; a tick leaves
the window, and every other outcome closes it. -/
theorem payloadWindow : Obligations.PayloadWindow := by
  unfold Obligations.PayloadWindow
  refine ⟨fun i p s t inv h complete => ?opens, fun s t h => tickWatchdog_keeps_payload (s := openClock s) h,
    fun i s t event h other => ?closes⟩
  case opens =>
    have inv' := exec_keeps_inv inv h
    have window := inv'.window.2 p complete
    have fits : p.length + 4 ≤ t.cfg.bufCap := inv'.window.1 p window
    obtain ⟨-, greatest, -⟩ := inv'.params
    obtain ⟨-, -, -, -, size, -⟩ := outputPortCodes
    exact ⟨size p (by omega), fun a => plData_inside window, fun a => plData_past window⟩
  case closes =>
    obtain closed | ⟨p, complete⟩ := (eventAnswer_of_exec event h).window
    · exact ⟨closed, fun a => plData_of_closed closed⟩
    · exact absurd complete (other p)

/-! ### Noninterference -/

/-- Two states with the same frame and the same outputs of the step that led to them. -/
structure SameShown (t t' : State) : Prop where
  frame   : SameFrame t t'
  outcome : t'.outcome = t.outcome
  errRpt  : t'.errRpt = t.errRpt
  arm     : t'.arm = t.arm
  payload : t'.payload = t.payload

section SameFrame

variable {s s' t : State}

theorem SameFrame.appended (same : SameFrame s s') (b : Byte) : SameFrame (appended b s) (appended b s') := by
  refine { same with buf := ?buf, cursor := congrArg (· + 1) same.cursor }
  simp only [Machine.appended, same.buf, same.cursor]

theorem SameFrame.withEmptyFrame (same : SameFrame s s') : SameFrame (withEmptyFrame s) (withEmptyFrame s') :=
  ⟨same.cfg, rfl, rfl, rfl, rfl, rfl, rfl, rfl⟩

theorem SameFrame.withEventPorts (same : SameFrame s s') (o : FrameOutcome) (f : LineFlags) (a : Bool)
    (w : Option (List Byte)) : SameShown (withEventPorts o f a w s) (withEventPorts o f a w s') :=
  ⟨{ same with }, rfl, rfl, rfl, rfl⟩

theorem SameFrame.stored (same : SameFrame s s') : SameShown (stored s) (stored s') :=
  ⟨{ same with }, rfl, rfl, rfl, rfl⟩

theorem SameFrame.ended (same : SameFrame s s') (o : FrameOutcome) : SameShown (ended o s) (ended o s') :=
  same.withEmptyFrame.withEventPorts o noFlags false (windowAfter o none)

theorem SameFrame.abandoned (same : SameFrame s s') (r : DiscardReason) (f : LineFlags) :
    SameShown (abandoned r f s) (abandoned r f s') := by
  by_cases idle : s.phase = .idle
  · rw [abandoned_of_idle idle, abandoned_of_idle (same.phase ▸ idle)]
    exact same.withEventPorts _ _ _ _
  · rw [abandoned_of_open idle, abandoned_of_open (same.phase ▸ idle)]
    exact same.withEmptyFrame.withEventPorts _ _ _ _

/-- The conditions of every way to answer, and what it leaves of the frame, are about the frame and the parameters. -/
theorem EventAnswer.of_sameFrame {i : Instr} (same : SameFrame s s') (answer : EventAnswer s i t) :
    ∃ t', EventAnswer s' i t' ∧ SameShown t t' := by
  have atPhase {p : Phase} (phase : s.phase = p) : s'.phase = p := same.phase ▸ phase
  have hasRoom (room : s.cursor < s.cfg.bufCap) : s'.cursor < s'.cfg.bufCap := same.cursor ▸ same.cfg ▸ room
  cases answer with
  | noise phase other => exact ⟨_, .noise (atPhase phase) other, same.withEventPorts _ _ _ _⟩
  | start phase room =>
    have delimiter := same.withEmptyFrame.appended delim
    exact ⟨_, .start (atPhase phase) (same.cfg ▸ room), SameFrame.stored { delimiter with phase := rfl }⟩
  | lengthHigh b phase room =>
    have byte := same.appended b
    exact ⟨_, .lengthHigh b (atPhase phase) (hasRoom room), SameFrame.stored { byte with phase := rfl, lenHi := rfl }⟩
  | @accepted b hi phase room high fits =>
    have byte := same.appended b
    exact ⟨_, .accepted (atPhase phase) (hasRoom room) (same.lenHi ▸ high) (same.cfg ▸ fits),
      SameFrame.stored { byte with phase := rfl, declLen := rfl, remaining := rfl, csum := rfl }⟩
  | overflow phase room high tooLong =>
    exact ⟨_, .overflow (atPhase phase) (hasRoom room) (same.lenHi ▸ high) (same.cfg ▸ tooLong), same.ended _⟩
  | payload b phase room left more running =>
    have byte := same.appended b
    exact ⟨_, .payload b (atPhase phase) (hasRoom room) (same.remaining ▸ left) more (same.csum ▸ running),
      SameFrame.stored { byte with remaining := rfl, csum := rfl }⟩
  | @completed sum len p phase room left running declared read =>
    have byte := same.appended (expectedChecksum sum)
    rw [bufReadRange_congr byte.cfg byte.buf] at read
    exact ⟨_, .completed (atPhase phase) (hasRoom room) (same.remaining ▸ left) (same.csum ▸ running)
      (same.declLen ▸ declared) read, same.ended _⟩
  | mismatch phase room left running other =>
    exact ⟨_, .mismatch (atPhase phase) (hasRoom room) (same.remaining ▸ left) (same.csum ▸ running) other, same.ended _⟩
  | lineError f d => exact ⟨_, .lineError f d, same.abandoned .lineError f⟩
  | timeout => exact ⟨_, .timeout, same.abandoned .timeout noFlags⟩
  | ignored w rule => exact ⟨_, .ignored w (same.cfg ▸ rule), same.withEventPorts _ _ _ _⟩

/-- An event step from one state, and the step from any other with the same frame. -/
theorem exec_event_of_sameFrame {i : Instr} (same : SameFrame s s') (event : isEvent i = true)
    (h : exec i s = .next t) : ∃ t', exec i s' = .next t' ∧ SameShown t t' := by
  obtain ⟨t', answer, shown⟩ := (eventAnswer_of_exec event h).of_sameFrame same
  exact ⟨t', answer.exec_eq_next, shown⟩

end SameFrame

/-- Settles O55: the same way to answer is open from the other state. -/
theorem eventStepReadsOnlyFrame : Obligations.EventStepReadsOnlyFrame := by
  unfold Obligations.EventStepReadsOnlyFrame
  intro i s s' t same event h
  obtain ⟨t', h', shown⟩ := exec_event_of_sameFrame same event h
  exact ⟨t', h', shown.frame, shown.outcome, shown.errRpt, shown.arm, shown.payload⟩

end Sys2Proof.Machine
end

section
/-! SUPPORT. The transition table of R180 (spec/43_interface_and_step.md section 3), row by row. -/

namespace Sys2Proof.Machine

/-- A good state that a LERR or a TOUT has led to has an empty buffer. -/
theorem abandoned_buf_of_inv {s : State} (inv : s.Inv) (r : DiscardReason) (f : LineFlags) :
    (abandoned r f s).buf = [] :=
  (idle_empty (inv_abandoned inv r f) abandoned_phase).1

/-- Settles O20: the equation of each row's arm, with the cells of R30 at the cursor. -/
theorem transitionTable : Obligations.TransitionTable := by
  unfold Obligations.TransitionTable
  intro s inv
  refine ⟨fun b => ?byte, fun f d => ?lerr, ?tout⟩
  case lerr =>
    have step := exec_lerr f d s
    exact ⟨_, step, exec_errRpt step, abandoned_phase, abandoned_buf_of_inv inv _ _, exec_event_arm rfl step,
      abandoned_outcome⟩
  case tout =>
    have step := exec_tout s
    exact ⟨_, step, exec_errRpt step, abandoned_phase, abandoned_buf_of_inv inv _ _, exec_event_arm rfl step,
      abandoned_outcome⟩
  case byte =>
    cases phase : s.phase with
    | idle =>
      by_cases start : b = 0x7E
      · have room : 0 < s.cfg.bufCap := Nat.lt_of_lt_of_le (by decide) inv.params.1
        subst start
        refine ⟨_, delimiterStartsFrame s phase room, rfl, ?_⟩
        exact (if_pos rfl).mpr ⟨rfl, rfl, rfl, rfl⟩
      · refine ⟨_, idleByteIsNoise b s phase start, rfl, ?_⟩
        exact (if_neg start).mpr ⟨phase, (idle_empty inv phase).1, rfl, rfl⟩
    | lenHi =>
      obtain ⟨buf, cursor, -⟩ := (frameInv_lenHi phase).1 inv.frame
      rw [buf, cursor]
      exact ⟨_, lengthHighIsStored b s inv phase, rfl, rfl, rfl, rfl, rfl, rfl⟩
    | lenLo =>
      obtain ⟨hi, high, buf, cursor, -⟩ := (frameInv_lenLo phase).1 inv.frame
      rw [high, buf, cursor]
      by_cases fits : hi.toNat * 256 + b.toNat + 4 ≤ s.cfg.bufCap
      · refine ⟨_, lengthLowAcceptedEntersBody b hi s inv phase high fits, rfl, ?_⟩
        exact (if_pos fits).mpr ⟨rfl, rfl, rfl, rfl, rfl, rfl, rfl⟩
      · refine ⟨_, lengthLowOverflowDiscards b hi s inv phase high (Nat.lt_of_not_le fits), rfl, ?_⟩
        exact (if_neg fits).mpr ⟨rfl, rfl, rfl, rfl⟩
    | body =>
      obtain ⟨hi, len, rem, sum, -, -, left, running, -⟩ := (frameInv_body phase).1 inv.frame
      rw [left, running]
      by_cases more : rem = 0
      case neg =>
        refine ⟨_, exec_byte_payload inv phase left running more, rfl, ?_⟩
        exact (if_neg more).mpr ⟨phase, rfl, rfl, rfl, rfl, rfl⟩
      subst more
      by_cases matching : b = expectedChecksum sum
      · subst matching
        refine ⟨_, exec_byte_completes inv phase left running, rfl, ?_⟩
        exact (if_pos rfl).mpr ⟨rfl, rfl, rfl, (if_pos rfl).mpr rfl⟩
      · refine ⟨_, exec_byte_mismatch inv phase left running matching, rfl, ?_⟩
        exact (if_pos rfl).mpr ⟨rfl, rfl, rfl, (if_neg matching).mpr rfl⟩

end Sys2Proof.Machine
end

section
/-! SUPPORT. The watchdog over a run without further Arm() (spec/42_watchdog.md R159): the count goes down by one with each
tick, and the expiry comes once. -/

namespace Sys2Proof.Machine

section Runs

variable {is : List Instr} {i : Instr} {s t u : State}

/-- A run ends with the step of its last input. -/
theorem runInputs_snoc_eq_next :
    runInputs (is ++ [i]) s = .next t ↔ ∃ u, runInputs is s = .next u ∧ exec i u = .next t := by
  induction is generalizing s with
  | nil => simp [runInputs, andThen_eq_next]
  | cons j is ih =>
    simp only [List.cons_append, runInputs, andThen_eq_next, ih]
    constructor
    · rintro ⟨v, first, u, rest, last⟩
      exact ⟨u, ⟨v, first, rest⟩, last⟩
    · rintro ⟨u, ⟨v, first, rest⟩, last⟩
      exact ⟨v, first, u, rest, last⟩

/-- The last input of such a run does not arm either, from the state the others lead to. -/
theorem noFurtherArm_snoc (quiet : NoFurtherArm (is ++ [i]) s) :
    NoFurtherArm is s ∧ ∀ u, runInputs is s = .next u → armsTable u i = false ∧ i ≠ .reset := by
  induction is generalizing s with
  | nil =>
    obtain ⟨unarmed, notReset, -⟩ := quiet
    refine ⟨trivial, ?_⟩
    rintro _ ⟨⟩
    exact ⟨unarmed, notReset⟩
  | cons j is ih =>
    obtain ⟨unarmed, notReset, others⟩ := quiet
    refine ⟨⟨unarmed, notReset, fun v first => (ih (others v first)).1⟩, fun u run => ?_⟩
    obtain ⟨v, first, rest⟩ := andThen_eq_next.1 run
    exact (ih (others v first)).2 u rest

/-- From a good state a run answers and stays good, with reserved words only where they are ignored (R185). -/
theorem runInputs_endsInInv (inv : s.Inv) (ignores : ∀ w, .reserved w ∈ is → s.cfg.reserved = .ignored) :
    EndsInInv (runInputs is s) := by
  induction is generalizing s with
  | nil => exact ⟨s, rfl, inv⟩
  | cons i is ih =>
    obtain ⟨u, first, inv'⟩ := exec_endsInInv (i := i) inv fun w input => ignores w (input ▸ List.mem_cons_self)
    rw [runInputs, first]
    refine ih inv' fun w later => ?_
    rw [exec_keeps_cfg first]
    exact ignores w (List.mem_cons_of_mem i later)

theorem runInputs_keeps_inv (inv : s.Inv) (run : runInputs is s = .next t) : t.Inv := by
  induction is generalizing s with
  | nil =>
    cases run
    exact inv
  | cons i is ih =>
    obtain ⟨u, first, rest⟩ := andThen_eq_next.1 run
    exact ih (exec_keeps_inv inv first) rest

end Runs

/-- The watchdog `k` ticks after an Arm() with a period of `n` ticks, and the queue, which was `q` then: armed with the rest
of the count before the period is over, and disarmed from there on, with one TOUT posted (R151, R154, R155). -/
def TicksAfterArm (n k : Nat) (q : List EventWord) (s : State) : Prop :=
  (k < n → s.wdArmed = true ∧ s.wdCount = some (n - k) ∧ s.queue = q)
    ∧ (n ≤ k → s.wdArmed = false ∧ s.wdCount = none ∧ s.queue = q ++ [0x8000])

section Ticks

variable {n k : Nat} {q : List EventWord} {is : List Instr} {i : Instr} {s t : State}

/-- One tick more, and the pulse of `wd_expire` in the tick that ends the period. -/
theorem TicksAfterArm.tick (after : TicksAfterArm n k q s) (h : exec .tick s = .next t) :
    TicksAfterArm n (k + 1) q t ∧ (k + 1 = n → t.wdExpire = true) := by
  obtain ⟨before, expired⟩ := after
  by_cases running : k < n
  · obtain ⟨armed, count, queue⟩ := before running
    obtain ⟨idle, -⟩ | ⟨m, -, count', more, rfl⟩ | ⟨-, last, rfl⟩ := tickWatchdog_eq_next.1 h
    · exact nomatch armed.symm.trans idle
    · obtain rfl : n - k = m := Option.some.inj (count.symm.trans count')
      exact ⟨⟨fun _ => ⟨armed, rfl, queue⟩, fun ended => by omega⟩, fun ends => by omega⟩
    · have one : n - k = 1 := Option.some.inj (count.symm.trans last)
      exact ⟨⟨fun left => by omega, fun _ => ⟨rfl, rfl, congrArg (· ++ [0x8000]) queue⟩⟩, fun _ => rfl⟩
  · have disarmed := expired (Nat.le_of_not_lt running)
    obtain ⟨-, rfl⟩ | ⟨m, armed, -⟩ | ⟨armed, -⟩ := tickWatchdog_eq_next.1 h
    · exact ⟨⟨fun left => by omega, fun _ => disarmed⟩, fun ends => by omega⟩
    · exact nomatch armed.symm.trans disarmed.1
    · exact nomatch armed.symm.trans disarmed.1

/-- The next tick is answered. -/
theorem TicksAfterArm.tick_answers (after : TicksAfterArm n k q s) : ∃ t, exec .tick s = .next t := by
  obtain ⟨before, expired⟩ := after
  by_cases running : k < n
  · obtain ⟨armed, count, -⟩ := before running
    by_cases last : n - k = 1
    · exact ⟨_, tickExpires s armed (last ▸ count)⟩
    · exact ⟨_, tickCountsDown (n - k) s armed count (by omega)⟩
  · exact ⟨_, tickWhileDisarmed s (expired (Nat.le_of_not_lt running)).1⟩

/-- An event that does not arm is no tick. -/
theorem TicksAfterArm.event (after : TicksAfterArm n k q s) (event : isEvent i = true) (unarmed : armsTable s i = false)
    (h : exec i s = .next t) : TicksAfterArm n k q t := by
  have same := exec_event_of_not_arms event h unarmed
  unfold TicksAfterArm
  rw [← same.wdArmed, ← same.wdCount, ← same.queue]
  exact after

/-- An input that is neither a tick nor a reset is an event. -/
theorem isEvent_of_ne (notTick : i ≠ .tick) (notReset : i ≠ .reset) : isEvent i = true := by
  cases i with
  | tick => exact absurd rfl notTick
  | reset => exact absurd rfl notReset
  | byte _ | lerr _ _ | tout | reserved _ => rfl

/-- Over a run without further Arm() the ticks alone count. -/
theorem ticksAfterArm_of_run (start : TicksAfterArm n 0 q s) (quiet : NoFurtherArm is s)
    (run : runInputs is s = .next t) :
    TicksAfterArm n (is.count .tick) q t
      ∧ (is.count .tick = n → is.getLast? = some .tick → t.wdExpire = true) := by
  induction is using List.reverseRecOn generalizing t with
  | nil =>
    cases run
    exact ⟨start, fun _ last => nomatch last⟩
  | append_singleton is i ih =>
    obtain ⟨u, run, last⟩ := runInputs_snoc_eq_next.1 run
    obtain ⟨quiet, lastQuiet⟩ := noFurtherArm_snoc quiet
    obtain ⟨unarmed, notReset⟩ := lastQuiet u run
    have after := (ih quiet run).1
    by_cases tick : i = .tick
    · subst tick
      obtain ⟨after', expires⟩ := after.tick last
      rw [List.count_append, List.count_singleton_self]
      exact ⟨after', fun ends _ => expires ends⟩
    · rw [List.count_append, List.count_singleton, if_neg (by simpa using tick), Nat.add_zero]
      refine ⟨after.event (isEvent_of_ne tick notReset) unarmed last, fun _ isLast => ?_⟩
      rw [List.getLast?_concat] at isLast
      exact absurd (Option.some.inj isLast) tick

/-- A run of ticks alone is answered. -/
theorem runInputs_ticks_answers (start : TicksAfterArm n 0 q s) (quiet : NoFurtherArm is s)
    (ticks : ∀ i ∈ is, i = .tick) : ∃ t, runInputs is s = .next t := by
  induction is using List.reverseRecOn with
  | nil => exact ⟨s, rfl⟩
  | append_singleton is i ih =>
    obtain ⟨others, last⟩ := List.forall_mem_append.1 ticks
    obtain rfl : i = .tick := last i List.mem_cons_self
    obtain ⟨quiet, -⟩ := noFurtherArm_snoc quiet
    obtain ⟨u, run⟩ := ih quiet others
    obtain ⟨t, ticked⟩ := (ticksAfterArm_of_run start quiet run).1.tick_answers
    exact ⟨t, runInputs_snoc_eq_next.2 ⟨u, run, ticked⟩⟩

end Ticks

/-- Settles O34: right after the Arm() no tick has been counted, and along the run each tick counts one. -/
theorem expiryOnLastTick : Obligations.ExpiryOnLastTick := by
  unfold Obligations.ExpiryOnLastTick
  intro is s least armed count quiet
  have start : TicksAfterArm s.cfg.timeoutTicks 0 s.queue s :=
    ⟨fun _ => ⟨armed, count, rfl⟩, fun ended => absurd ended (Nat.not_le.2 least)⟩
  refine ⟨fun t run => ?counts, fun meaning => ?answers⟩
  case counts =>
    obtain ⟨⟨before, expired⟩, expires⟩ := ticksAfterArm_of_run start quiet run
    exact ⟨before, expired, expires⟩
  case answers =>
    obtain ticks | ⟨inv, ignores⟩ := meaning
    · exact runInputs_ticks_answers start quiet ticks
    · obtain ⟨t, run, -⟩ := runInputs_endsInInv inv ignores
      exact ⟨t, run⟩

end Sys2Proof.Machine
end

section
/-! SUPPORT. The frames the block completes (spec/30_encoding.md R72): the buffer records the bytes since the delimiter, so
a completed frame is well-formed; and a well-formed frame completes, whatever ticks stand between its bytes. -/

namespace Sys2Proof.Machine

/-! ### What the buffer records -/

section Records

variable {i : Instr} {is : List Instr} {s t u : State}

/-- A write at the cursor of a good state is one byte more at the end. -/
theorem bytes_write_at_cursor (frame : FrameInv s) (b : Byte) :
    (s.buf.write s.cursor b).map Prod.snd = s.buf.map Prod.snd ++ [b] := by
  obtain ⟨bs, buf, cursor⟩ := cells_of_frameInv frame
  have written := Memory.write_cellsFrom 0 bs b
  rw [Nat.zero_add] at written
  rw [buf, cursor, written, map_snd_cellsFrom, map_snd_cellsFrom]

theorem exec_byte_records {b : Byte} (inv : s.Inv) (h : exec (.byte b) s = .next t) (inFrame : t.phase ≠ .idle) :
    t.buf.map Prod.snd = s.buf.map Prod.snd ++ [b] := by
  obtain ⟨w, input, -⟩ | ⟨b', input, buf, -⟩ := (eventAnswer_of_exec rfl h).stores inv inFrame
  · cases input
  · cases input
    rw [buf, bytes_write_at_cursor inv.frame]

/-- An input that ends outside IDLE adds to the bytes of the buffer what it brings to the frame: its byte, or nothing. -/
theorem exec_records (inv : s.Inv) (h : exec i s = .next t) (inFrame : t.phase ≠ .idle) :
    ∃ bs, [i].filter touchesFrame = byteInputs bs ∧ t.buf.map Prod.snd = s.buf.map Prod.snd ++ bs := by
  cases i with
  | byte b => exact ⟨[b], rfl, exec_byte_records inv h inFrame⟩
  | lerr | tout =>
    cases eventAnswer_of_exec rfl h
    exact absurd abandoned_phase inFrame
  | tick => exact ⟨[], rfl, by rw [tickWatchdog_keeps_buf (s := openClock s) h, List.append_nil, openClock_buf]⟩
  | reset =>
    cases h
    exact absurd rfl inFrame
  | reserved w =>
    cases eventAnswer_of_exec rfl h
    exact ⟨[], rfl, (List.append_nil _).symm⟩

/-- A run from IDLE goes through IDLE for a last time, and from there on its frame inputs are BYTEs, the bytes of the
buffer. -/
theorem run_records (inv : s.Inv) (idle : s.phase = .idle) (run : runInputs is s = .next u) :
    ∃ before during v, is = before ++ during ∧ runInputs before s = .next v ∧ v.phase = .idle
      ∧ during.filter touchesFrame = byteInputs (u.buf.map Prod.snd) := by
  induction is using List.reverseRecOn generalizing u with
  | nil =>
    cases run
    exact ⟨[], [], s, rfl, rfl, idle, by rw [(idle_empty inv idle).1]; rfl⟩
  | append_singleton is i ih =>
    obtain ⟨u', others, last⟩ := runInputs_snoc_eq_next.1 run
    by_cases atIdle : u.phase = .idle
    · exact ⟨is ++ [i], [], u, (List.append_nil _).symm, run, atIdle,
        by rw [(idle_empty (runInputs_keeps_inv inv run) atIdle).1]; rfl⟩
    · obtain ⟨before, during, v, rfl, first, atIdle', recorded⟩ := ih others
      obtain ⟨bs, input, bytes⟩ := exec_records (runInputs_keeps_inv inv others) last atIdle
      refine ⟨before, during ++ [i], v, List.append_assoc _ _ _, first, atIdle', ?_⟩
      rw [List.filter_append, recorded, input, bytes, byteInputs, byteInputs, byteInputs, List.map_append]

end Records

/-! ### A completed frame is well-formed -/

section Completed

variable {i : Instr} {p : List Byte} {s t : State}

theorem abandoned_not_complete (r : DiscardReason) (f : LineFlags) (s : State) (p : List Byte) :
    (abandoned r f s).outcome ≠ some (.frameComplete p) := by
  rw [abandoned_outcome]
  split <;> exact nofun

/-- The bytes of the buffer at the checksum position, with the matching byte, are the frame of the payload so far. -/
theorem bytes_at_checksum {hi sum : Byte} {len : BitVec 16} (row : bodyRow s hi len 0 sum) :
    s.buf.map Prod.snd ++ [expectedChecksum sum] = frameBytes (payloadSoFar s) := by
  obtain ⟨buf, high, -, count, total, -⟩ := row
  have size : BitVec.ofNat 16 (payloadSoFar s).length = len := by
    rw [show (payloadSoFar s).length = len.toNat from count, BitVec.ofNat_toNat, BitVec.setWidth_eq]
  rw [frameBytes, frameWithChecksum, frameChecksum, lengthHigh, lengthLow, size, high, ← total]
  nth_rw 1 [buf]
  rw [map_snd_cellsFrom]

/-- A frame is completed by a byte that with the bytes of the buffer makes the frame of the payload, which fits. -/
theorem exec_completes (inv : s.Inv) (h : exec i s = .next t) (complete : t.outcome = some (.frameComplete p)) :
    ∃ c, i = .byte c ∧ s.buf.map Prod.snd ++ [c] = frameBytes p ∧ p.length + 4 ≤ s.cfg.bufCap := by
  have event : isEvent i = true := by
    have shown : outValid t = true := by rw [outValid, complete, Option.isSome_some]
    obtain ⟨-, ports⟩ := oneOutcomePerEvent
    refine isEvent_of_ne ?tick ?reset
    case tick =>
      rintro rfl
      exact nomatch shown.symm.trans (ports s t (.inl h))
    case reset =>
      rintro rfl
      exact nomatch shown.symm.trans (ports s t (.inr h))
  cases eventAnswer_of_exec event h with
  | completed phase _ left running =>
    cases h.symm.trans (exec_byte_completes inv phase left running)
    cases complete
    obtain ⟨hi, len, -, -, row⟩ := bodyRow_of_inv inv phase left running
    have ⟨_, _, _, count, _, fits⟩ := row
    have size : (payloadSoFar s).length = len.toNat := count
    exact ⟨_, rfl, bytes_at_checksum row, size ▸ fits⟩
  | noise | start | lengthHigh | accepted | overflow | payload | mismatch | ignored => cases complete
  | lineError | timeout => exact absurd complete (abandoned_not_complete _ _ _ _)

end Completed

/-! ### A well-formed frame completes -/

section Fed

variable {s t : State} {b : Byte} {bs : List Byte} {n : Nat}

/-- The first of a run of Continue outcomes. -/
theorem exec_of_observe_continue
    (run : observeInputs (byteInputs (b :: bs)) s = .next (List.replicate (n + 1) (.continue_, noFlags), t)) :
    ∃ u, exec (.byte b) s = .next u ∧ u.outcome = some .continue_
      ∧ observeInputs (byteInputs bs) u = .next (List.replicate n (.continue_, noFlags), t) := by
  obtain ⟨u, first, others⟩ := andThen_eq_next.1 run
  obtain ⟨⟨later, v⟩, rest, result⟩ := andThen_eq_next.1 others
  simp only [Host.Outcome.next.injEq, Prod.mk.injEq] at result
  obtain ⟨shown, rfl⟩ := result
  have emits := (emits_exec_byte b s u first).1
  cases outcome : u.outcome with
  | none => simp [outValid, outcome] at emits
  | some o =>
    simp only [observation, outcome, List.cons_append, List.nil_append, List.replicate_succ, List.cons.injEq,
      Prod.mk.injEq] at shown
    obtain ⟨⟨rfl, -⟩, rfl⟩ := shown
    exact ⟨u, first, outcome, rest⟩

/-- Outside IDLE a Continue does not lead to IDLE: a frame ends with another outcome (R181). -/
theorem exec_continue_open (inv : s.Inv) (inFrame : s.phase ≠ .idle) (h : exec (.byte b) s = .next t)
    (outcome : t.outcome = some .continue_) : t.phase ≠ .idle := by
  intro idle
  obtain ⟨ends, -⟩ := eachFrameEndsWithOneOutcome (.byte b) s t inv rfl h
  obtain ⟨-, -, -, -, -, -, ⟨p, complete⟩ | ⟨r, discarded⟩⟩ := ends inFrame idle
  · exact nomatch outcome.symm.trans complete
  · exact nomatch outcome.symm.trans discarded

/-- Bytes that all give Continue outside IDLE stand in the buffer, one after another. -/
theorem observe_continue_records (inv : s.Inv) (inFrame : s.phase ≠ .idle)
    (run : observeInputs (byteInputs bs) s = .next (List.replicate bs.length (.continue_, noFlags), t)) :
    t.buf.map Prod.snd = s.buf.map Prod.snd ++ bs := by
  induction bs generalizing s with
  | nil =>
    cases run
    exact (List.append_nil _).symm
  | cons b bs ih =>
    obtain ⟨u, first, outcome, rest⟩ := exec_of_observe_continue run
    have stillOpen := exec_continue_open inv inFrame first outcome
    rw [ih (exec_keeps_inv inv first) stillOpen rest, exec_byte_records inv first stillOpen, List.append_assoc,
      List.singleton_append]

/-- The payload so far at the checksum position of a frame fed from IDLE is its payload. -/
theorem payloadSoFar_of_observe {p : List Byte} {hi lo : Byte} (inv : s.Inv) (idle : s.phase = .idle)
    (run : observeInputs (byteInputs ([delim, hi, lo] ++ p)) s =
      .next (List.replicate (p.length + 3) (.continue_, noFlags), t)) : payloadSoFar t = p := by
  obtain ⟨u, first, -, rest⟩ := exec_of_observe_continue run
  obtain ⟨u', first', -, inv', phase, -⟩ := delimiter_enters_lenHi inv idle
  cases first.symm.trans first'
  have inFrame : u.phase ≠ .idle := by simp [phase]
  rw [payloadSoFar, observe_continue_records (bs := [hi, lo] ++ p) inv' inFrame rest,
    exec_byte_records inv first inFrame, (idle_empty inv idle).1]
  rfl

/-- A well-formed frame that fits completes from IDLE. -/
theorem observe_frameBytes {p : List Byte} (inv : s.Inv) (idle : s.phase = .idle) (fits : p.length + 4 ≤ s.cfg.bufCap) :
    ∃ t, observeInputs (byteInputs (frameBytes p)) s =
        .next (List.replicate (p.length + 3) (.continue_, noFlags) ++ [(.frameComplete p, noFlags)], t)
      ∧ t.phase = .idle := by
  obtain ⟨u, run, inv', phase, left, running⟩ := observe_to_checksum inv idle fits
  have last := exec_byte_completes inv' phase left running
  rw [payloadSoFar_of_observe inv idle run] at last
  rw [frameBytes, frameWithChecksum, byteInputs, List.map_append]
  exact ⟨_, observeInputs_append run (observeInputs_cons last rfl), rfl⟩

end Fed

/-! ### Ticks between the bytes -/

section Ticks

variable {s s' t t' : State} {is : List Instr} {seen : List (FrameOutcome × LineFlags)}

theorem SameFrame.symm (same : SameFrame s t) : SameFrame t s :=
  ⟨same.cfg.symm, same.phase.symm, same.buf.symm, same.cursor.symm, same.lenHi.symm, same.declLen.symm,
    same.remaining.symm, same.csum.symm⟩

theorem SameFrame.trans {r : State} (first : SameFrame r s) (second : SameFrame s t) : SameFrame r t :=
  ⟨first.cfg.trans second.cfg, first.phase.trans second.phase, first.buf.trans second.buf,
    first.cursor.trans second.cursor, first.lenHi.trans second.lenHi, first.declLen.trans second.declLen,
    first.remaining.trans second.remaining, first.csum.trans second.csum⟩

/-- A tick touches no frame field (R32). -/
theorem tickWatchdog_sameFrame (h : tickWatchdog s = .next t) : SameFrame s t := by
  obtain ⟨-, rfl⟩ | ⟨n, -, -, -, rfl⟩ | ⟨-, -, rfl⟩ := tickWatchdog_eq_next.1 h <;> constructor <;> rfl

/-- A tick in front of a run from a good state changes neither the frame nor the observation. -/
theorem tick_unseen (inv : s.Inv) : ∃ t, exec .tick s = .next t ∧ observation t = [] ∧ SameFrame s t ∧ t.Inv := by
  obtain ⟨t, ticked, inv'⟩ := tickWatchdog_endsInInv (inv_openClock inv)
  refine ⟨t, ticked, ?unseen, { tickWatchdog_sameFrame ticked with }, inv'⟩
  rw [observation, tickWatchdog_keeps_outcome ticked]
  rfl

theorem SameShown.observation (shown : SameShown t t') : observation t' = observation t := by
  unfold Machine.observation
  rw [shown.outcome, shown.errRpt]

/-- Ticks anywhere in a run of events change neither the frame nor what is observed. -/
theorem observeInputs_with_ticks (inv : s.Inv) (same : SameFrame s s')
    (events : ∀ i ∈ is, i ≠ .tick → isEvent i = true)
    (run : observeInputs (is.filter fun i => decide (i ≠ .tick)) s' = .next (seen, t')) :
    ∃ t, observeInputs is s = .next (seen, t) ∧ SameFrame t t' ∧ t.Inv := by
  induction is generalizing s s' seen with
  | nil =>
    cases run
    exact ⟨s, rfl, same, inv⟩
  | cons i is ih =>
    obtain ⟨event, eventsLater⟩ := List.forall_mem_cons.1 events
    by_cases tick : i = .tick
    · subst tick
      rw [List.filter_cons_of_neg (by simp)] at run
      obtain ⟨u, ticked, unseen, kept, inv'⟩ := tick_unseen inv
      obtain ⟨t, rest, result⟩ := ih inv' (kept.symm.trans same) eventsLater run
      have whole := observeInputs_cons ticked rest
      rw [unseen] at whole
      exact ⟨t, whole, result⟩
    · rw [List.filter_cons_of_pos (by simpa using tick)] at run
      obtain ⟨u', first, others⟩ := andThen_eq_next.1 run
      obtain ⟨⟨later, v⟩, rest, result⟩ := andThen_eq_next.1 others
      cases result
      obtain ⟨u, first', shown⟩ := exec_event_of_sameFrame same.symm (event tick) first
      obtain ⟨t, rest', result⟩ := ih (exec_keeps_inv inv first') shown.frame.symm eventsLater rest
      have whole := observeInputs_cons first' rest'
      rw [shown.observation] at whole
      exact ⟨t, whole, result⟩

end Ticks

/-- Settles O53: a frame fed with ticks between is observed as without them; a completing byte closes the frame that the
buffer records; and the buffer records the run since IDLE. -/
theorem exactlyWellFormedFramesComplete : Obligations.ExactlyWellFormedFramesComplete := by
  unfold Obligations.ExactlyWellFormedFramesComplete
  refine ⟨fun p is s inv idle fits fed => ?fed, fun i p s t inv h complete => exec_completes inv h complete,
    fun is i p s t inv idle run complete => ?history⟩
  case fed =>
    obtain ⟨t', run, idle'⟩ := observe_frameBytes inv idle fits
    have events : ∀ i ∈ is, i ≠ .tick → isEvent i = true := by
      intro i listed notTick
      have kept : i ∈ is.filter fun i => decide (i ≠ .tick) := List.mem_filter.2 ⟨listed, decide_eq_true notTick⟩
      rw [fed] at kept
      obtain ⟨b, -, rfl⟩ := List.mem_map.1 kept
      rfl
    rw [← fed] at run
    obtain ⟨t, run, same, inv'⟩ := observeInputs_with_ticks inv (by constructor <;> rfl) events run
    exact ⟨t, run, same.phase.trans idle', inv'⟩
  case history =>
    obtain ⟨u, others, last⟩ := runInputs_snoc_eq_next.1 run
    obtain ⟨before, during, v, rfl, first, idle', recorded⟩ := run_records inv idle others
    obtain ⟨c, rfl, bytes, -⟩ := exec_completes (runInputs_keeps_inv inv others) last complete
    refine ⟨before, during ++ [.byte c], v, List.append_assoc _ _ _, first, idle', ?_⟩
    rw [List.filter_append, recorded, ← bytes, byteInputs, byteInputs, List.map_append]
    rfl

end Sys2Proof.Machine
end
